-- ==== Sys2Proof/Word.lean ====
section
/-! DEFINITION. The words of the part: bytes of a frame, 16-bit values, 14-bit raw codes, input voltages. -/

namespace Sys2Proof

/-- A byte of a frame, of the digital inputs or of the output latch (R157, R59, R60). -/
abbrev Byte := BitVec 8

/-- A 16-bit value: a reported value, a map entry, a substitute (0.7.4, R105). -/
abbrev Word16 := BitVec 16

/-- A raw conversion code, 0 to 16383 (0.7.3). -/
abbrev Code := BitVec 14

/-- The voltage on an analog input in whole femtovolts (log 11). Every threshold of R68 is a whole number of them. -/
abbrev Voltage := Int

end Sys2Proof
end

