-- ==== Sys2Proof/Syntax.lean ====
section
/-! DEFINITION. The commands of the part, one constructor for each row of spec/opcode_table.json. -/

namespace Sys2Proof

/-- A command: a step of the part, whole and indivisible (95).
A request command carries the TAG and the body bytes of its frame. It is the SERVICE of the request where the frame
stands at the head of the request buffer and service may begin (R163); otherwise it is the arrival of the whole frame,
which is served in the same step at a free port with an empty buffer (R161, R163; log 2). -/
inductive Instr where
  /-- IDENTIFY, R171. -/
  | identify (tag : Byte) (body : List Byte)
  /-- STATUS, R172. -/
  | status (tag : Byte) (body : List Byte)
  /-- CLEAR, R173. -/
  | clear (tag : Byte) (body : List Byte)
  /-- The EMPTY_QUEUE action, as a CLEAR that names it alone beside a flag mask, R153 (log 3). -/
  | emptyQueue (tag : Byte) (mask : BitVec 16)
  /-- The ERASE_PROGRAM action, as a CLEAR that names it alone beside a flag mask, R15 (log 3). -/
  | eraseProgram (tag : Byte) (mask : BitVec 16)
  /-- The ERASE_MAPS action, as a CLEAR that names it alone beside a flag mask, R123 (log 3). -/
  | eraseMaps (tag : Byte) (mask : BitVec 16)
  /-- The REST_OUTPUTS action, as a CLEAR that names it alone beside a flag mask, R63 (log 3). -/
  | restOutputs (tag : Byte) (mask : BitVec 16)
  /-- ATTENTION SET, R174. -/
  | attentionSet (tag : Byte) (body : List Byte)
  /-- RESET, R175. -/
  | reset (tag : Byte) (body : List Byte)
  /-- PROGRAM LOAD, R11. -/
  | programLoad (tag : Byte) (body : List Byte)
  /-- PROGRAM TRIM, R13. -/
  | programTrim (tag : Byte) (body : List Byte)
  /-- PROGRAM READ, R14. -/
  | programRead (tag : Byte) (body : List Byte)
  /-- TRIGGER SET, R47. -/
  | triggerSet (tag : Byte) (body : List Byte)
  /-- OUTPUT SET, R62. -/
  | outputSet (tag : Byte) (body : List Byte)
  /-- ARM, R21. -/
  | arm (tag : Byte) (body : List Byte)
  /-- STOP, R37. -/
  | stop (tag : Byte) (body : List Byte)
  /-- RESUME, R25. -/
  | resume (tag : Byte) (body : List Byte)
  /-- SAMPLE, R74. -/
  | sample (tag : Byte) (body : List Byte)
  /-- PROFILE SET, R81. -/
  | profileSet (tag : Byte) (body : List Byte)
  /-- PROFILE READ, R84. -/
  | profileRead (tag : Byte) (body : List Byte)
  /-- SUBSTITUTE SET, R85. -/
  | substituteSet (tag : Byte) (body : List Byte)
  /-- MAP LOAD, R109. -/
  | mapLoad (tag : Byte) (body : List Byte)
  /-- MAP COMMIT, R112. -/
  | mapCommit (tag : Byte) (body : List Byte)
  /-- MAP SWAP, R117. -/
  | mapSwap (tag : Byte) (body : List Byte)
  /-- MAP READ, R122. -/
  | mapRead (tag : Byte) (body : List Byte)
  /-- CHECK SET, R129. -/
  | checkSet (tag : Byte) (body : List Byte)
  /-- DRAIN, R150. -/
  | drain (tag : Byte) (body : List Byte)
  /-- The service of a frame whose KIND names no request, R163. -/
  | unknownKind (kind tag : Byte) (body : List Byte)
  /-- The CHK byte of a frame is received, R161. -/
  | frameComplete (chk : Byte)
  /-- A LEN byte above 240 is received, R158. -/
  | lenError (len : Byte)
  /-- The gap between two bytes of a frame exceeds 5000 microseconds, R159. -/
  | gapTimeout
  /-- A byte with a low stop bit, the line returning high before 20 bit times, R160. -/
  | framingError
  /-- LRX has been low for 20 bit times, R168. -/
  | linkBreak
  /-- LRX returns high after a break, R167. -/
  | breakEnd
  /-- The stop bit of a reply's last byte is sent, R165. -/
  | replySent
  /-- HOLDN is high again while the transmitter waits on it, R166. -/
  | holdnRelease
  /-- Power-on, or RSTN low, to the end of the reset, R183. -/
  | powerOnReset
  /-- A step's settle timer expires, R27. -/
  | settleExpiry
  /-- The step timer expires, R30. -/
  | stepTimerExpiry
  /-- The pacer expires, R36. -/
  | pacerExpiry
  /-- One conversion ends, R70. -/
  | conversionEnd
  /-- The level monitor's interval timer expires, R56. -/
  | monitorIntervalExpiry
  /-- The settle timer of a SAMPLE request expires, R75. -/
  | sampleSettleExpiry
  /-- Check Unit B absorbs the next entry of the standby half, R135. -/
  | unitBAbsorb
  /-- The check of a MAP COMMIT completes, R114. -/
  | mapCommitCompletion
  /-- The line watcher finds an edge of the configured polarity, R49. -/
  | trigEdge
  /-- A comparator sample is a pattern event, R54. -/
  | patternEvent
  /-- A byte arrives on LRX, R158. -/
  | byteReceived (byte : Byte)
  /-- The stop bit of a reply byte other than the last is sent, R166. -/
  | replyByteSent
  /-- The comparator takes a sample, R51. -/
  | comparatorSample
  /-- The line watcher takes a sample of TRIG, R48. -/
  | lineWatcherSample
  deriving DecidableEq, Repr

end Sys2Proof
end

