-- ==== Sys2Proof/Decode.lean ====
section
/-! DEFINITION. What words spell commands: the kind codes of TABLE 10.1 and the request command a frame stands for. The opcode table gives no row bits, so no table word spells a command. -/

namespace Sys2Proof

/-- Kind codes of the requests, TABLE 10.1. -/
def kindIdentify : Byte := 0x01
/-- TABLE 10.1. -/
def kindStatus : Byte := 0x02
/-- TABLE 10.1. -/
def kindClear : Byte := 0x03
/-- TABLE 10.1. -/
def kindAttentionSet : Byte := 0x04
/-- TABLE 10.1. -/
def kindReset : Byte := 0x05
/-- TABLE 10.1. -/
def kindProgramLoad : Byte := 0x10
/-- TABLE 10.1. -/
def kindProgramTrim : Byte := 0x11
/-- TABLE 10.1. -/
def kindProgramRead : Byte := 0x12
/-- TABLE 10.1. -/
def kindTriggerSet : Byte := 0x18
/-- TABLE 10.1. -/
def kindOutputSet : Byte := 0x19
/-- TABLE 10.1. -/
def kindArm : Byte := 0x20
/-- TABLE 10.1. -/
def kindStop : Byte := 0x21
/-- TABLE 10.1. -/
def kindResume : Byte := 0x22
/-- TABLE 10.1. -/
def kindSample : Byte := 0x28
/-- TABLE 10.1. -/
def kindProfileSet : Byte := 0x30
/-- TABLE 10.1. -/
def kindProfileRead : Byte := 0x31
/-- TABLE 10.1. -/
def kindSubstituteSet : Byte := 0x32
/-- TABLE 10.1. -/
def kindMapLoad : Byte := 0x38
/-- TABLE 10.1. -/
def kindMapCommit : Byte := 0x39
/-- TABLE 10.1. -/
def kindMapSwap : Byte := 0x3A
/-- TABLE 10.1. -/
def kindMapRead : Byte := 0x3B
/-- TABLE 10.1. -/
def kindCheckSet : Byte := 0x40
/-- TABLE 10.1. -/
def kindDrain : Byte := 0x48

/-- The kind of a REFUSE (R164). -/
def kindRefuse : Byte := 0xFF

/-- The kind of the ACK of a request: its kind plus 0x80 (R164). -/
def ackKind (kind : Byte) : Byte := kind + 0x80

/-- Every kind code that names a request (TABLE 10.1). -/
def requestKinds : List Byte :=
  [kindIdentify, kindStatus, kindClear, kindAttentionSet, kindReset, kindProgramLoad, kindProgramTrim, kindProgramRead,
   kindTriggerSet, kindOutputSet, kindArm, kindStop, kindResume, kindSample, kindProfileSet, kindProfileRead,
   kindSubstituteSet, kindMapLoad, kindMapCommit, kindMapSwap, kindMapRead, kindCheckSet, kindDrain]

/-- The request command that is the service of a frame (R163, TABLE 10.1): by its kind, or UNKNOWN_KIND. -/
def requestCommand (kind tag : Byte) (body : List Byte) : Instr :=
  if kind = kindIdentify then .identify tag body
  else if kind = kindStatus then .status tag body
  else if kind = kindClear then .clear tag body
  else if kind = kindAttentionSet then .attentionSet tag body
  else if kind = kindReset then .reset tag body
  else if kind = kindProgramLoad then .programLoad tag body
  else if kind = kindProgramTrim then .programTrim tag body
  else if kind = kindProgramRead then .programRead tag body
  else if kind = kindTriggerSet then .triggerSet tag body
  else if kind = kindOutputSet then .outputSet tag body
  else if kind = kindArm then .arm tag body
  else if kind = kindStop then .stop tag body
  else if kind = kindResume then .resume tag body
  else if kind = kindSample then .sample tag body
  else if kind = kindProfileSet then .profileSet tag body
  else if kind = kindProfileRead then .profileRead tag body
  else if kind = kindSubstituteSet then .substituteSet tag body
  else if kind = kindMapLoad then .mapLoad tag body
  else if kind = kindMapCommit then .mapCommit tag body
  else if kind = kindMapSwap then .mapSwap tag body
  else if kind = kindMapRead then .mapRead tag body
  else if kind = kindCheckSet then .checkSet tag body
  else if kind = kindDrain then .drain tag body
  else .unknownKind kind tag body

/-- The command a table word spells. No row of spec/opcode_table.json gives bits ("fixed" and "fields" are empty in
all 51), so no word spells one (log 19). -/
def decodeTableWord (_nbits _w : Nat) : Option Instr := none

end Sys2Proof
end

