-- ==== Sys2Proof/Config.lean ====
section
/-! DEFINITION. The fixed numbers of the part: capacities, limits and times. The spec leaves no value of the part open, so there is no free value here. -/

namespace Sys2Proof.Config

/-- Program capacity: 64 entries (R1, R171). -/
def programCapacity : Nat := 64

/-- Queue capacity: 1024 records (R138, R171). -/
def queueCapacity : Nat := 1024

/-- Under HALT a sample record is appended only below this count; the last place is the marker's (R141). -/
def sampleLimit : Nat := 1023

/-- Pages of the translation map (R105, R171). -/
def pageCount : Nat := 16

/-- Entries of one half of a page (R105). -/
def halfEntries : Nat := 256

/-- Frames the request buffer holds (R162). -/
def requestSlots : Nat := 4

/-- The greatest LEN a frame may carry (R157). -/
def maxBody : Nat := 240

/-- The start byte of a frame (R157). -/
def startByte : Byte := 0xC3

/-- The longest gap allowed between the bytes of a frame, in microseconds (R159). -/
def gapLimit : Nat := 5000

/-- The measure of one bit time: the speed in bits a second, summed over the microseconds, reaches it (R156, 0.7.5). -/
def bitTime : Nat := 1000000

/-- The measure of one byte on the line, ten bit times (R156). -/
def byteTime : Nat := 10 * bitTime

/-- The measure of the longest frame on the line: five bytes and the greatest body (R157). -/
def frameTime : Nat := (maxBody + 5) * byteTime

/-- The time of one conversion in microseconds (R70). -/
def conversionMicros : Nat := 5

/-- The part number, revision and family code of IDENTIFY (R171). -/
def partNumber : Nat := 1614

/-- The revision of IDENTIFY (R171). -/
def revision : Nat := 3

/-- The family code of IDENTIFY, the characters W and Z (R171, TABLE 10.2). -/
def familyCode : List Byte := [0x57, 0x5A]

/-- One volt in femtovolts, the unit of `Voltage` (log 11). -/
def volt : Int := 1000000000000000

end Sys2Proof.Config
end

