-- ==== Sys2Proof/Machine/State.lean ====
section
/-! DEFINITION. The state of the part, block by block (00 TABLE 0.1), as plain data; the reasons a step can stop; the state after power-on reset. -/

namespace Sys2Proof.Machine

/-! ## Program Store (Section 1) -/

/-- The input span of a conversion (R4). -/
inductive Range where
  | bip10 | bip5 | bip2 | uni10
  deriving DecidableEq, Repr

/-- The number of conversions of a claim: 1, 2, 4 or 8 (R4). -/
inductive Averaging where
  | one | two | four | eight
  deriving DecidableEq, Repr

/-- What a step measures (R3). -/
inductive Source where
  | analog | digital
  deriving DecidableEq, Repr

/-- A scan entry (TABLE 1.1). The pattern marked absent holds the value 0x00 (R2), so `none` is the whole of it. -/
structure Entry where
  source : Source
  channel : Fin 16
  range : Range
  averaging : Averaging
  profile : Fin 16
  settle : BitVec 16
  capture : Bool
  pause : Bool
  pattern : Option Byte
  deriving DecidableEq, Repr

/-- The zero entry: the content of a slot at power-on and after ERASE_PROGRAM (1.2). -/
def Entry.zero : Entry :=
  { source := .analog, channel := 0, range := .bip10, averaging := .one, profile := 0, settle := 0, capture := false,
    pause := false, pattern := none }

/-- The Program Store (R1). -/
structure ProgramStore where
  slots : Vector Entry 64
  length : Nat
  deriving DecidableEq, Repr

/-! ## Acquisition Sequencer (Section 2) -/

/-- The phase of a step in RUNNING (R17). -/
inductive Phase where
  | settling | converting | spacing
  deriving DecidableEq, Repr

/-- The six states of the sequencer (R17, TABLE 2.1). -/
inductive AcqState where
  | stopped
  | armed
  | running (phase : Phase)
  | paused
  | waiting
  | halted
  deriving DecidableEq, Repr

/-- How the most recent run ended (R43, TABLE 2.6). -/
inductive EndCause where
  | none | complete | request | line | pattern | limit | reset
  deriving DecidableEq, Repr

/-- The start trigger of a run (R19, R22). -/
inductive StartSource where
  | now | line | pattern | level
  deriving DecidableEq, Repr

/-- What releases a pause (R19). -/
inductive PauseRelease where
  | request | line
  deriving DecidableEq, Repr

/-- The run context held by the sequencer (TABLE 2.3). -/
structure RunContext where
  passLimit : BitVec 16
  passInterval : BitVec 24
  stepInterval : BitVec 16
  start : StartSource
  stopLine : Bool
  stopPattern : Bool
  stopLimit : Bool
  release : PauseRelease
  deriving DecidableEq, Repr

/-- The run context at power-on (R19). -/
def RunContext.powerOn : RunContext :=
  { passLimit := 0, passInterval := 0, stepInterval := 0, start := .now, stopLine := false, stopPattern := false,
    stopLimit := false, release := .request }

/-- The step timer: idle, running with the microseconds left (0: its expiry is due), or expired and remembered (R30). -/
inductive StepTimer where
  | idle
  | running (left : Nat)
  | expired
  deriving DecidableEq, Repr

/-- The sequencer's state, runtime values and timers (R17, R18, TABLE 2.2). A timer is `none` when idle, or the
microseconds it has left; with none left its expiry is due. -/
structure Sequencer where
  state : AcqState
  stepIndex : Fin 64
  passNumber : BitVec 16
  passesStarted : BitVec 16
  sampleCount : Nat
  missedTicks : BitVec 8
  passClock : BitVec 24
  pauseMark : Bool
  endCause : EndCause
  ctx : RunContext
  settle : Option Nat
  stepTimer : StepTimer
  pacer : Option Nat
  deriving DecidableEq, Repr

/-! ## Trigger Unit and Digital Lines (Section 3) -/

/-- The edge of TRIG that counts (R46). -/
inductive Polarity where
  | rising | falling
  deriving DecidableEq, Repr

/-- The comparator's mode (R52, R53). -/
inductive PatternMode where
  | matching | change
  deriving DecidableEq, Repr

/-- When the comparator samples (R51). -/
inductive Sampling where
  | timebase | pacer
  deriving DecidableEq, Repr

/-- The sense of the level monitor's judgement (R57). -/
inductive Direction where
  | above | below
  deriving DecidableEq, Repr

/-- The trigger configuration (TABLE 3.1). -/
structure TriggerConfig where
  polarity : Polarity
  mask : Byte
  compare : Byte
  mode : PatternMode
  sampling : Sampling
  monitorChannel : Fin 16
  monitorRange : Range
  threshold : Code
  direction : Direction
  monitorInterval : BitVec 16
  deriving DecidableEq, Repr

/-- The power-on column of TABLE 3.1. -/
def TriggerConfig.powerOn : TriggerConfig :=
  { polarity := .rising, mask := 0x00, compare := 0x00, mode := .matching, sampling := .timebase, monitorChannel := 0,
    monitorRange := .bip10, threshold := 8192, direction := .above, monitorInterval := 100 }

/-- The state of the level monitor (R56). -/
inductive MonitorState where
  | idle | timing | converting
  deriving DecidableEq, Repr

/-- The Trigger Unit (R46, R48, R50, R56). `lineDue` and `cmpDue` are the model's own marks: the sample of this
microsecond is still to be taken (log 4). -/
structure TriggerUnit where
  cfg : TriggerConfig
  lineWatching : Bool
  lineLevel : Bool
  lineDue : Bool
  cmpWatching : Bool
  prevMasked : Byte
  prevMatch : Bool
  cmpDue : Bool
  monitor : MonitorState
  monitorTimer : Option Nat
  seenFalse : Bool
  deriving DecidableEq, Repr

/-- The output latch and the rest pattern (R60, R61). -/
structure DigitalLines where
  latch : Byte
  rest : Byte
  deriving DecidableEq, Repr

/-! ## Converter (Section 4) -/

/-- Who holds the Converter (TABLE 4.6). -/
inductive Claimant where
  | step | monitor | sample
  deriving DecidableEq, Repr

/-- The claim record (TABLE 4.1), with the input that the conversion in progress sampled at its start (R66) and the
microseconds that conversion has left (R70). -/
structure Claim where
  claimant : Claimant
  channel : Fin 16
  range : Range
  asked : Averaging
  done : Nat
  sum : Nat
  overrange : Bool
  input : Voltage
  left : Nat
  deriving DecidableEq, Repr

/-- The Converter: IDLE with no claim, CONVERTING with one (R65). -/
structure Converter where
  mux : Fin 16
  claim : Option Claim
  deriving DecidableEq, Repr

/-! ## Formatter (Section 5) -/

/-- The form of a reported value (R95, R96). -/
inductive Form where
  | directRight | directLeft | signed | mapped
  deriving DecidableEq, Repr

/-- Which page a MAPPED profile reads (R96). -/
inductive PageSource where
  | channel | fixed
  deriving DecidableEq, Repr

/-- The source of a condition slot (R92). -/
inductive Condition where
  | din (line : Fin 8)
  | high
  | low
  | ovr
  deriving DecidableEq, Repr

/-- A condition slot of a profile (TABLE 5.1). -/
structure ConditionSlot where
  enabled : Bool
  source : Condition
  deriving DecidableEq, Repr

/-- A profile record (TABLE 5.1). -/
structure Profile where
  form : Form
  pageSource : PageSource
  page : Fin 16
  limits : Bool
  high : Code
  low : Code
  hysteresis : BitVec 10
  limitStop : Bool
  slot0 : ConditionSlot
  slot1 : ConditionSlot
  slot2 : ConditionSlot
  slot3 : ConditionSlot
  floorEnabled : Bool
  floor : Code
  keepRaw : Bool
  stamp : Bool
  deriving DecidableEq, Repr

/-- A condition slot at power-on: disabled, source DIN0. -/
def ConditionSlot.powerOn : ConditionSlot := { enabled := false, source := .din 0 }

/-- The power-on column of TABLE 5.1. -/
def Profile.powerOn : Profile :=
  { form := .directRight, pageSource := .channel, page := 0, limits := false, high := 16383, low := 0, hysteresis := 0,
    limitStop := false, slot0 := .powerOn, slot1 := .powerOn, slot2 := .powerOn, slot3 := .powerOn,
    floorEnabled := false, floor := 0, keepRaw := false, stamp := false }

/-- The limit zone of a slot (R87). -/
inductive Zone where
  | normal | high | low
  deriving DecidableEq, Repr

/-- The Formatter (R79, R85, R87), with the DIN byte and the stamp it holds for the step in progress (R86). -/
structure Formatter where
  active : Vector Profile 16
  staged : Vector (Option Profile) 16
  subst : Vector Word16 16
  zones : Vector Zone 64
  heldByte : Byte
  heldStamp : BitVec 24
  deriving DecidableEq, Repr

/-! ## Translation Map (Section 6) -/

/-- A half of a page (R105). -/
inductive Half where
  | a | b
  deriving DecidableEq, Repr

/-- The state of a half (R107). -/
inductive HalfState where
  | empty | loading | checked | failed
  deriving DecidableEq, Repr

/-- A page: its record (TABLE 6.1) and the entries of its two halves. -/
structure Page where
  live : Half
  stateA : HalfState
  stateB : HalfState
  pending : Bool
  lastResidue : BitVec 32
  entriesA : Vector Word16 256
  entriesB : Vector Word16 256
  deriving DecidableEq, Repr

/-- A page at power-on and after ERASE_MAPS (R123, R124). -/
def Page.erased : Page :=
  { live := .a, stateA := .empty, stateB := .empty, pending := false, lastResidue := 0,
    entriesA := Vector.replicate 256 0, entriesB := Vector.replicate 256 0 }

/-- The Translation Map (R105). -/
structure TranslationMap where
  pages : Vector Page 16
  deriving DecidableEq, Repr

/-! ## Check Units (Section 7) -/

/-- What a residue is loaded with (R125). -/
inductive InitialValue where
  | ones | zero
  deriving DecidableEq, Repr

/-- The order in which the bits of a word are taken (R127). -/
inductive InputOrder where
  | msbFirst | lsbFirst
  deriving DecidableEq, Repr

/-- The configuration of a check unit (TABLE 7.1). -/
structure CheckConfig where
  width : Nat
  polynomial : BitVec 32
  initial : InitialValue
  order : InputOrder
  invert : Bool
  deriving DecidableEq, Repr

/-- The power-on column of TABLE 7.1. -/
def CheckConfig.powerOn : CheckConfig :=
  { width := 16, polynomial := 0x1021, initial := .ones, order := .msbFirst, invert := false }

/-- One check unit: its configuration and its residue, in the low `width` bits (R125). -/
structure CheckUnit where
  cfg : CheckConfig
  residue : BitVec 32
  deriving DecidableEq, Repr

/-- The two check units; Unit B is CHECKING while it has a job, the page and half under check (R135). `absorbDue` is
the model's own mark: the entry of this microsecond is still to be absorbed (log 4). -/
structure CheckUnits where
  a : CheckUnit
  b : CheckUnit
  job : Option (Fin 16 × Half)
  entryCount : Nat
  absorbDue : Bool
  deriving DecidableEq, Repr

/-! ## Result Queue (Section 8) -/

/-- The flags of a sample record (TABLE 5.8). -/
structure RecordFlags where
  ovr : Bool
  high : Bool
  low : Bool
  overridden : Bool
  floor : Bool
  unmapped : Bool
  loss : Bool
  deriving DecidableEq, Repr

/-- All flags clear, as on a DIGITAL record (R101). -/
def RecordFlags.clear : RecordFlags :=
  { ovr := false, high := false, low := false, overridden := false, floor := false, unmapped := false, loss := false }

/-- The source of a sample record: ANALOG with its channel, or DIGITAL (TABLE 8.1). -/
inductive RecordSource where
  | analog (channel : Fin 16)
  | digital
  deriving DecidableEq, Repr

/-- A sample record (TABLE 8.1). -/
structure SampleRecord where
  step : Fin 64
  source : RecordSource
  value : Word16
  flags : RecordFlags
  raw : Option Code
  digital : Option Byte
  stamp : Option (BitVec 24)
  deriving DecidableEq, Repr

/-- The status of a pass marker (R41). -/
inductive MarkerStatus where
  | complete | aborted
  deriving DecidableEq, Repr

/-- A pass marker (TABLE 8.1). -/
structure PassMarker where
  passNumber : BitVec 16
  status : MarkerStatus
  sampleCount : Nat
  missedTicks : BitVec 8
  residue : BitVec 32
  loss : Bool
  deriving DecidableEq, Repr

/-- A record of the queue (TABLE 8.1). -/
inductive Record where
  | sample (r : SampleRecord)
  | marker (m : PassMarker)
  deriving DecidableEq, Repr

/-- A sample record as it is offered, with its stop-cause mark (R89, R139). -/
structure Offer where
  record : SampleRecord
  stopCause : Bool
  deriving DecidableEq, Repr

/-- The full policy (R140). -/
inductive FullPolicy where
  | halt | discard
  deriving DecidableEq, Repr

/-- The Result Queue, oldest record first; its count is the length of the list (R138). -/
structure ResultQueue where
  records : List Record
  held : Option Offer
  lossMark : Bool
  policy : FullPolicy
  level : Nat
  deriving DecidableEq, Repr

/-! ## Link Port and Status Unit (Section 9) -/

/-- The link speed the straps choose (TABLE 9.1). -/
inductive Speed where
  | s19200 | s57600 | s115200 | s460800
  deriving DecidableEq, Repr

/-- A complete frame, or a reply: LEN is the length of its body, CHK follows from the rest (R157). -/
structure Frame where
  kind : Byte
  tag : Byte
  body : List Byte
  deriving DecidableEq, Repr

/-- The receiver (R158): HUNT; HEADER with LEN, KIND or TAG next; BODY and CHECK with what has been taken. -/
inductive Receiver where
  | hunt
  | headerLen
  | headerKind (len : Byte)
  | headerTag (len kind : Byte)
  | body (len kind tag : Byte) (taken : List Byte)
  | check (len kind tag : Byte) (taken : List Byte)
  deriving DecidableEq, Repr

/-- The fields of a SAMPLE request (R74). -/
structure SampleFields where
  channel : Fin 16
  range : Range
  averaging : Averaging
  profile : Fin 16
  settle : BitVec 16
  deriving DecidableEq, Repr

/-- The request in service whose reply is not yet formed (R163, R164): none, a MAP COMMIT, or a SAMPLE in its settle
(with the microseconds left) or in its conversions (with the DIN byte kept for it, R75). -/
inductive Service where
  | idle
  | commit (tag : Byte) (expected : BitVec 32)
  | sampleSettling (tag : Byte) (fields : SampleFields) (left : Nat)
  | sampleConverting (tag : Byte) (fields : SampleFields) (din : Byte)
  deriving DecidableEq, Repr

/-- The reply buffer in use (R165): the reply, the bytes sent in full, the time the byte in progress has been going out
(the speed summed over its microseconds, R156; log 6), whether the transmitter waits on HOLDN before the next byte
(R166), and whether a break has cut the reply (R168). -/
structure Transmission where
  reply : Frame
  sent : Nat
  clock : Nat
  waiting : Bool
  cut : Bool
  deriving DecidableEq, Repr

/-- The Link Port with its Status Unit (Section 9). `badStop`: a byte's stop bit was low and the receiver waits for LRX to
rise (R160). `sinceReset`: the time since power-on reset ended, the speed summed over the microseconds, up to that of the
longest frame (R183; log 12). -/
structure LinkPort where
  speed : Speed
  rx : Receiver
  gap : Option Nat
  inBreak : Bool
  badStop : Bool
  lowFor : Nat
  sinceReset : Nat
  requests : List Frame
  service : Service
  abandoned : Bool
  reply : Option Transmission
  flags : BitVec 14
  mask : BitVec 14
  deriving DecidableEq, Repr

/-! ## Pins and the outside -/

/-- The levels on the input pins (00 TABLE 0.2). -/
structure Pins where
  lrx : Bool
  holdn : Bool
  rstn : Bool
  spd1 : Bool
  spd0 : Bool
  trig : Bool
  din : Byte
  ain : Vector Voltage 16
  deriving DecidableEq, Repr

/-- The levels at State.reset: the lines at rest, the inputs low, 0 V (log 10; DESIGN CHOICE). -/
def Pins.rest : Pins :=
  { lrx := true, holdn := true, rstn := true, spd1 := false, spd0 := false, trig := false, din := 0x00,
    ain := Vector.replicate 16 0 }

/-- What the outside brings at one coming microsecond: the new pin levels, the ten levels LRX had, start bit first, where
a byte has just ended on it (empty where none has, R156), and the commands that arrive (log 5). -/
structure Moment where
  pins : Pins
  line : List Bool
  commands : List Instr
  deriving DecidableEq, Repr

/-! ## The state -/

/-- The part: its ten blocks (TABLE 0.1), its input pins, what the outside will bring, and the queue of commands
waiting, first in, first out. -/
structure State where
  ps : ProgramStore
  seq : Sequencer
  tu : TriggerUnit
  dl : DigitalLines
  cv : Converter
  fm : Formatter
  tm : TranslationMap
  ck : CheckUnits
  rq : ResultQueue
  lp : LinkPort
  pins : Pins
  coming : List Moment
  pending : List Instr
  deriving DecidableEq, Repr

/-- The faults. There are none: the spec names no event that stops the part (R164, R158 to R161: what it cannot take it
refuses or discards, and goes on). -/
inductive Fault
  deriving DecidableEq, Repr

/-- The refusals. -/
inductive Refusal where
  /-- A command that has no meaning yet. Raised by the arms of Dispatch alone; no arm raises it now. Safe. -/
  | notModelled (mnemonic : String)
  deriving DecidableEq, Repr

/-! ## Power-on values -/

/-- The Program Store after power-on (R16). -/
def ProgramStore.powerOn : ProgramStore := { slots := Vector.replicate 64 .zero, length := 0 }

/-- The sequencer after power-on (R45). The value of the idle pass clock is DESIGN CHOICE 0 (log 9). -/
def Sequencer.powerOn : Sequencer :=
  { state := .stopped, stepIndex := 0, passNumber := 0, passesStarted := 0, sampleCount := 0, missedTicks := 0,
    passClock := 0, pauseMark := false, endCause := .none, ctx := .powerOn, settle := none, stepTimer := .idle,
    pacer := none }

/-- The Trigger Unit after power-on (R46, R48, R50, R56). The idle watcher's level is DESIGN CHOICE low (log 9). -/
def TriggerUnit.powerOn : TriggerUnit :=
  { cfg := .powerOn, lineWatching := false, lineLevel := false, lineDue := false, cmpWatching := false,
    prevMasked := 0x00, prevMatch := false, cmpDue := false, monitor := .idle, monitorTimer := none,
    seenFalse := false }

/-- The Digital Lines after power-on (R64). -/
def DigitalLines.powerOn : DigitalLines := { latch := 0x00, rest := 0x00 }

/-- The Converter after power-on (R78). -/
def Converter.powerOn : Converter := { mux := 0, claim := none }

/-- The Formatter after power-on (R103). The held byte and stamp are DESIGN CHOICE 0 (log 9). -/
def Formatter.powerOn : Formatter :=
  { active := Vector.replicate 16 .powerOn, staged := Vector.replicate 16 none, subst := Vector.replicate 16 0,
    zones := Vector.replicate 64 .normal, heldByte := 0x00, heldStamp := 0 }

/-- The Translation Map after power-on (R124). -/
def TranslationMap.powerOn : TranslationMap := { pages := Vector.replicate 16 .erased }

/-- The Check Units after power-on (R137): each residue is the initial value of the power-on configuration, sixteen
ones. -/
def CheckUnits.powerOn : CheckUnits :=
  { a := { cfg := .powerOn, residue := 0xFFFF }, b := { cfg := .powerOn, residue := 0xFFFF }, job := none,
    entryCount := 0, absorbDue := false }

/-- The Result Queue after power-on (R154). -/
def ResultQueue.powerOn : ResultQueue :=
  { records := [], held := none, lossMark := false, policy := .halt, level := 512 }

/-- The speed the straps choose (TABLE 9.1). -/
def Speed.ofStraps (spd1 spd0 : Bool) : Speed :=
  match spd1, spd0 with
  | false, false => .s19200
  | false, true => .s57600
  | true, false => .s115200
  | true, true => .s460800

/-- The Link Port after power-on, its straps read (R176): POWER_ON is bit 0 of the flags (TABLE 10.11). -/
def LinkPort.powerOn (pins : Pins) : LinkPort :=
  { speed := .ofStraps pins.spd1 pins.spd0, rx := .hunt, gap := none, inBreak := false, badStop := false, lowFor := 0,
    sinceReset := 0, requests := [], service := .idle, abandoned := false, reply := none, flags := 1, mask := 0 }

/-- Every block at its power-on values (R183). The pins, what the outside will bring and the model's queue are not the
part's own and stand as given. -/
def State.powerOn (pins : Pins) (coming : List Moment) (pending : List Instr) : State :=
  { ps := .powerOn, seq := .powerOn, tu := .powerOn, dl := .powerOn, cv := .powerOn, fm := .powerOn, tm := .powerOn,
    ck := .powerOn, rq := .powerOn, lp := .powerOn pins, pins := pins, coming := coming, pending := pending }

/-- The part right after power-on reset, with the lines at rest and nothing waiting. -/
def State.reset : State := .powerOn .rest [] []

end Sys2Proof.Machine
end

