-- ==== Sys2Proof/Machine/Flags.lean ====
section
/-! DEFINITION. The condition flags and the attention mask (R169, R170), and the flags byte of a sample record (TABLE 10.11). -/

namespace Sys2Proof.Machine

/-- The fourteen condition flags (TABLE 9.6). -/
inductive Flag where
  | powerOn | triggered | passEnd | runEnd | paused | halted | queueLevel | queueLoss | limit | tickMissed | pattern
  | mapCheck | linkError | linkBreak
  deriving DecidableEq, Repr

/-- The bit position of a condition flag (TABLE 10.11). -/
def Flag.position : Flag → Nat
  | .powerOn => 0
  | .triggered => 1
  | .passEnd => 2
  | .runEnd => 3
  | .paused => 4
  | .halted => 5
  | .queueLevel => 6
  | .queueLoss => 7
  | .limit => 8
  | .tickMissed => 9
  | .pattern => 10
  | .mapCheck => 11
  | .linkError => 12
  | .linkBreak => 13

/-- The flag word with one flag alone. -/
def Flag.bit (f : Flag) : BitVec 14 := BitVec.ofNat 14 (2 ^ f.position)

/-- Whether a condition flag stands set (R169). -/
def State.flag (s : State) (f : Flag) : Bool := s.lp.flags.getLsbD f.position

/-- Set a condition flag; one already set stays set (R169). -/
def raise (f : Flag) (s : State) : State := { s with lp.flags := s.lp.flags ||| f.bit }

/-- Clear the flags a mask names (R169, R173). -/
def clearFlags (mask : BitVec 14) (s : State) : State := { s with lp.flags := s.lp.flags &&& ~~~mask }

/-- ATTN: some flag is set and enabled (R170). -/
def attn (s : State) : Bool := (s.lp.flags &&& s.lp.mask) != 0

/-- A bit as a number at a bit position. -/
def bitAt (position : Nat) (b : Bool) : Nat := if b then 2 ^ position else 0

/-- The flags byte of a sample record: OVR 0, HIGH 1, LOW 2, OVERRIDDEN 3, FLOOR 4, UNMAPPED 5, LOSS 6 (TABLE 10.11). -/
def RecordFlags.byte (f : RecordFlags) : Byte :=
  BitVec.ofNat 8 (bitAt 0 f.ovr + bitAt 1 f.high + bitAt 2 f.low + bitAt 3 f.overridden + bitAt 4 f.floor +
    bitAt 5 f.unmapped + bitAt 6 f.loss)

end Sys2Proof.Machine
end

