-- ==== Sys2Proof/Machine/Operands.lean ====
section
/-! DEFINITION. The operand forms of the commands: how the fields of request bodies are read (R177, Section 10) and how the fields of replies are laid out (R180 to R182). A reader answers none where a pattern names no value of its field. -/

namespace Sys2Proof.Machine

/-! ## Bytes and words: least significant byte first (0.7.3) -/

/-- The number two bytes carry. -/
def num16 (b0 b1 : Byte) : Nat := b0.toNat + 256 * b1.toNat

/-- The number three bytes carry. -/
def num24 (b0 b1 b2 : Byte) : Nat := b0.toNat + 256 * b1.toNat + 65536 * b2.toNat

/-- The number four bytes carry. -/
def num32 (b0 b1 b2 b3 : Byte) : Nat := b0.toNat + 256 * b1.toNat + 65536 * b2.toNat + 16777216 * b3.toNat

/-- A number as `n` bytes, least significant first. -/
def bytesLE : Nat → Nat → List Byte
  | 0, _ => []
  | n + 1, x => BitVec.ofNat 8 x :: bytesLE n (x / 256)

/-- The body of a CLEAR that names one action beside a flag mask (TABLE 10.2). -/
def clearBody (mask : BitVec 16) (actions : Byte) : List Byte := bytesLE 2 mask.toNat ++ [actions]

/-- The 16-bit words of a list of bytes, two bytes each; an odd last byte gives none. -/
def words16 : List Byte → List Word16
  | b0 :: b1 :: rest => BitVec.ofNat 16 (num16 b0 b1) :: words16 rest
  | _ => []

/-- 16-bit words as bytes, least significant byte first. -/
def wordBytes (ws : List Word16) : List Byte := ws.flatMap fun w => bytesLE 2 w.toNat

/-- A mark with two values: 0x00 no, 0x01 yes (Section 10). -/
def markByte (b : Bool) : Byte := if b then 0x01 else 0x00

/-! ## Tables: writing and reading consecutive entries -/

/-- Write values into consecutive entries from an index on, in order. -/
def writeFrom {α : Type} {n : Nat} (t : Vector α n) (start : Nat) : List α → Vector α n
  | [] => t
  | x :: xs => writeFrom (t.setIfInBounds start x) (start + 1) xs

/-- Set one value in consecutive entries from an index on. -/
def fillFrom {α : Type} {n : Nat} (t : Vector α n) (start : Nat) (x : α) : Nat → Vector α n
  | 0 => t
  | k + 1 => fillFrom (t.setIfInBounds start x) (start + 1) x k

/-- The entries from an index on, in index order. -/
def readFrom {α : Type} {n : Nat} (t : Vector α n) (start count : Nat) : List α := (t.toList.drop start).take count

/-- Replace one entry. -/
def putAt {α : Type} {n : Nat} (t : Vector α n) (i : Fin n) (x : α) : Vector α n := t.set i.val x i.isLt

/-! ## Codes of fields (TABLES 10.2 to 10.10) -/

/-- A channel, profile or page number 0-15. -/
def nibble? (b : Byte) : Option (Fin 16) := if h : b.toNat < 16 then some ⟨b.toNat, h⟩ else none

/-- A number 0-15 as its byte. -/
def nibbleByte (i : Fin 16) : Byte := BitVec.ofNat 8 i.val

/-- A two-byte raw code 0-16383. -/
def code? (b0 b1 : Byte) : Option Code :=
  if num16 b0 b1 < 16384 then some (BitVec.ofNat 14 (num16 b0 b1)) else none

/-- A mark byte: 0x00 or 0x01. -/
def mark? (b : Byte) : Option Bool := if b = 0x00 then some false else if b = 0x01 then some true else none

/-- Range codes (TABLE 10.4). -/
def range? (b : Byte) : Option Range :=
  if b = 0x00 then some .bip10 else if b = 0x01 then some .bip5 else if b = 0x02 then some .bip2
  else if b = 0x03 then some .uni10 else none

/-- The code of a range (TABLE 10.4). -/
def Range.byte : Range → Byte
  | .bip10 => 0x00
  | .bip5 => 0x01
  | .bip2 => 0x02
  | .uni10 => 0x03

/-- Averaging codes: the count itself (TABLE 10.4). -/
def averaging? (b : Byte) : Option Averaging :=
  if b = 0x01 then some .one else if b = 0x02 then some .two else if b = 0x04 then some .four
  else if b = 0x08 then some .eight else none

/-- The number of conversions an averaging asks (R4). -/
def Averaging.count : Averaging → Nat
  | .one => 1
  | .two => 2
  | .four => 4
  | .eight => 8

/-- The code of an averaging (TABLE 10.4). -/
def Averaging.byte (a : Averaging) : Byte := BitVec.ofNat 8 a.count

/-- Source codes (TABLE 10.4). -/
def source? (b : Byte) : Option Source :=
  if b = 0x00 then some .analog else if b = 0x01 then some .digital else none

/-- The code of a source (TABLE 10.4). -/
def Source.byte : Source → Byte
  | .analog => 0x00
  | .digital => 0x01

/-- Half codes: 0x00 A, 0x01 B (10.7). -/
def half? (b : Byte) : Option Half := if b = 0x00 then some .a else if b = 0x01 then some .b else none

/-- The code of a half (10.7). -/
def Half.byte : Half → Byte
  | .a => 0x00
  | .b => 0x01

/-- The code of a half state (10.7). -/
def HalfState.byte : HalfState → Byte
  | .empty => 0x00
  | .loading => 0x01
  | .checked => 0x02
  | .failed => 0x03

/-- The code of an acquisition state (TABLE 10.3). -/
def AcqState.byte : AcqState → Byte
  | .stopped => 0
  | .armed => 1
  | .running _ => 2
  | .paused => 3
  | .waiting => 4
  | .halted => 5

/-- The code of an end cause (TABLE 10.3). -/
def EndCause.byte : EndCause → Byte
  | .none => 0
  | .complete => 1
  | .request => 2
  | .line => 3
  | .pattern => 4
  | .limit => 5
  | .reset => 6

/-! ## The scan entry (TABLE 10.4) -/

/-- Read an entry's nine bytes. The pattern byte is disregarded where the pattern is marked absent (R2, R177). -/
def entry? : List Byte → Option Entry
  | [b0, b1, b2, b3, b4, b5, b6, b7, b8] => do
    let source ← source? b0
    let channel ← nibble? b1
    let range ← range? b2
    let averaging ← averaging? b3
    let profile ← nibble? b4
    if b5.toNat < 8 then
      some { source, channel, range, averaging, profile, settle := BitVec.ofNat 16 (num16 b7 b8),
             capture := b5.getLsbD 0, pause := b5.getLsbD 1, pattern := if b5.getLsbD 2 then some b6 else none }
    else none
  | _ => none

/-- Read `n` entries of nine bytes each, none where any of them is invalid (R2). -/
def entries? : Nat → List Byte → Option (List Entry)
  | 0, _ => some []
  | n + 1, bytes => do
    let e ← entry? (bytes.take 9)
    let rest ← entries? n (bytes.drop 9)
    some (e :: rest)

/-- The nine bytes of an entry as stored (TABLE 10.4, R14). -/
def Entry.bytes (e : Entry) : List Byte :=
  [e.source.byte, nibbleByte e.channel, e.range.byte, e.averaging.byte, nibbleByte e.profile,
   BitVec.ofNat 8 (bitAt 0 e.capture + bitAt 1 e.pause + bitAt 2 e.pattern.isSome), e.pattern.getD 0x00] ++
    bytesLE 2 e.settle.toNat

/-! ## ARM (TABLE 10.5) -/

/-- The fields of an ARM request: the run context, the full policy and the queue level (TABLE 2.3). -/
structure ArmFields where
  ctx : RunContext
  policy : FullPolicy
  level : Nat
  deriving DecidableEq, Repr

/-- Start source codes (TABLE 10.5). -/
def startSource? (b : Byte) : Option StartSource :=
  if b = 0 then some .now else if b = 1 then some .line else if b = 2 then some .pattern
  else if b = 3 then some .level else none

/-- Pause release codes (TABLE 10.5). -/
def pauseRelease? (b : Byte) : Option PauseRelease :=
  if b = 0 then some .request else if b = 1 then some .line else none

/-- Full policy codes (TABLE 10.5). -/
def fullPolicy? (b : Byte) : Option FullPolicy :=
  if b = 0 then some .halt else if b = 1 then some .discard else none

/-- Read the thirteen bytes of ARM, none where a field is out of range or LINE is in the stop set with pause release LINE
(TABLE 2.4, check 3). -/
def arm? : List Byte → Option ArmFields
  | [b0, b1, b2, b3, b4, b5, b6, b7, b8, b9, b10, b11, b12] => do
    let start ← startSource? b7
    let release ← pauseRelease? b9
    let policy ← fullPolicy? b10
    let interval := num24 b2 b3 b4
    let level := num16 b11 b12
    if (interval = 0 ∨ 100 ≤ interval) ∧ b8.toNat < 8 ∧ 1 ≤ level ∧ level ≤ 1024 ∧
        ¬ (b8.getLsbD 0 = true ∧ release = .line) then
      some { ctx := { passLimit := BitVec.ofNat 16 (num16 b0 b1), passInterval := BitVec.ofNat 24 interval,
                      stepInterval := BitVec.ofNat 16 (num16 b5 b6), start, stopLine := b8.getLsbD 0,
                      stopPattern := b8.getLsbD 1, stopLimit := b8.getLsbD 2, release },
             policy, level }
    else none
  | _ => none

/-! ## TRIGGER SET (TABLE 10.6) -/

/-- Read the twelve bytes of TRIGGER SET, none under any condition of the second check of R47. -/
def trigger? : List Byte → Option TriggerConfig
  | [b0, b1, b2, b3, b4, b5, b6, b7, b8, b9, b10, b11] => do
    let falling ← mark? b0
    let change ← mark? b3
    let onPacer ← mark? b4
    let monitorChannel ← nibble? b5
    let monitorRange ← range? b6
    let threshold ← code? b7 b8
    let below ← mark? b9
    if 10 ≤ num16 b10 b11 then
      some { polarity := if falling then .falling else .rising, mask := b1, compare := b2,
             mode := if change then .change else .matching, sampling := if onPacer then .pacer else .timebase,
             monitorChannel, monitorRange, threshold, direction := if below then .below else .above,
             monitorInterval := BitVec.ofNat 16 (num16 b10 b11) }
    else none
  | _ => none

/-! ## SAMPLE (TABLE 10.7) -/

/-- Read the six bytes of SAMPLE, none under the second check of R74. -/
def sample? : List Byte → Option SampleFields
  | [b0, b1, b2, b3, b4, b5] => do
    let channel ← nibble? b0
    let range ← range? b1
    let averaging ← averaging? b2
    let profile ← nibble? b3
    some { channel, range, averaging, profile, settle := BitVec.ofNat 16 (num16 b4 b5) }
  | _ => none

/-! ## Profiles (TABLE 10.8) -/

/-- Form codes (TABLE 10.8). -/
def form? (b : Byte) : Option Form :=
  if b = 0 then some .directRight else if b = 1 then some .directLeft else if b = 2 then some .signed
  else if b = 3 then some .mapped else none

/-- The code of a form (TABLE 10.8). -/
def Form.byte : Form → Byte
  | .directRight => 0
  | .directLeft => 1
  | .signed => 2
  | .mapped => 3

/-- Condition source codes: 0-7 DIN0-DIN7, 8 HIGH, 9 LOW, 10 OVR (TABLE 10.8). -/
def condition? (n : Nat) : Option Condition :=
  if h : n < 8 then some (.din ⟨n, h⟩) else if n = 8 then some .high else if n = 9 then some .low
  else if n = 10 then some .ovr else none

/-- The code of a condition source (TABLE 10.8). -/
def Condition.code : Condition → Nat
  | .din line => line.val
  | .high => 8
  | .low => 9
  | .ovr => 10

/-- Read a condition slot: bits 0-3 source, bits 4-6 reserved, bit 7 enable (TABLE 10.8). -/
def slot? (b : Byte) : Option ConditionSlot := do
  let source ← condition? (b.toNat % 16)
  if b.toNat / 16 % 8 = 0 then some { enabled := b.getLsbD 7, source } else none

/-- The byte of a condition slot (TABLE 10.8). -/
def ConditionSlot.byte (c : ConditionSlot) : Byte := BitVec.ofNat 8 (c.source.code + bitAt 7 c.enabled)

/-- Read the sixteen bytes of a profile record, none where a field lies outside its values or L is above H (R81). -/
def profile? : List Byte → Option Profile
  | [b0, b1, b2, b3, b4, b5, b6, b7, b8, b9, b10, b11, b12, b13, b14, b15] => do
    let form ← form? b0
    let fixed ← mark? b1
    let page ← nibble? b2
    let high ← code? b4 b5
    let low ← code? b6 b7
    let floor ← code? b10 b11
    let slot0 ← slot? b12
    let slot1 ← slot? b13
    let slot2 ← slot? b14
    let slot3 ← slot? b15
    if b3.toNat < 32 ∧ num16 b8 b9 < 1024 ∧ low.toNat ≤ high.toNat then
      some { form, pageSource := if fixed then .fixed else .channel, page, limits := b3.getLsbD 0, high, low,
             hysteresis := BitVec.ofNat 10 (num16 b8 b9), limitStop := b3.getLsbD 1, slot0, slot1, slot2, slot3,
             floorEnabled := b3.getLsbD 2, floor, keepRaw := b3.getLsbD 3, stamp := b3.getLsbD 4 }
    else none
  | _ => none

/-- The sixteen bytes of a profile record (TABLE 10.8). -/
def Profile.bytes (p : Profile) : List Byte :=
  [p.form.byte, markByte (decide (p.pageSource = .fixed)), nibbleByte p.page,
   BitVec.ofNat 8 (bitAt 0 p.limits + bitAt 1 p.limitStop + bitAt 2 p.floorEnabled + bitAt 3 p.keepRaw +
     bitAt 4 p.stamp)] ++
    bytesLE 2 p.high.toNat ++ bytesLE 2 p.low.toNat ++ bytesLE 2 p.hysteresis.toNat ++ bytesLE 2 p.floor.toNat ++
    [p.slot0.byte, p.slot1.byte, p.slot2.byte, p.slot3.byte]

/-! ## Check configurations (TABLE 10.10) -/

/-- Read the eight bytes of a check configuration: checks 3, 4 and 5 of TABLE 7.3. -/
def checkConfig? : List Byte → Option CheckConfig
  | [b0, b1, b2, b3, b4, b5, b6, b7] => do
    let zero ← mark? b5
    let lsbFirst ← mark? b6
    let invert ← mark? b7
    let polynomial := num32 b1 b2 b3 b4
    if 8 ≤ b0.toNat ∧ b0.toNat ≤ 32 ∧ polynomial ≠ 0 ∧ polynomial < 2 ^ b0.toNat then
      some { width := b0.toNat, polynomial := BitVec.ofNat 32 polynomial,
             initial := if zero then .zero else .ones, order := if lsbFirst then .lsbFirst else .msbFirst, invert }
    else none
  | _ => none

/-- The eight bytes of a check configuration (TABLE 10.10). -/
def CheckConfig.bytes (c : CheckConfig) : List Byte :=
  [BitVec.ofNat 8 c.width] ++ bytesLE 4 c.polynomial.toNat ++
    [markByte (decide (c.initial = .zero)), markByte (decide (c.order = .lsbFirst)), markByte c.invert]

/-! ## Records in a DRAIN reply (TABLES 10.12, 10.13) -/

/-- A sample record's bytes (R181). -/
def SampleRecord.bytes (r : SampleRecord) : List Byte :=
  let source := match r.source with
    | .analog channel => channel.val
    | .digital => 16
  [0x01, BitVec.ofNat 8 r.step.val,
   BitVec.ofNat 8 (source + bitAt 5 r.raw.isSome + bitAt 6 r.digital.isSome + bitAt 7 r.stamp.isSome)] ++
    bytesLE 2 r.value.toNat ++ [r.flags.byte] ++
    (match r.raw with | some c => bytesLE 2 c.toNat | none => []) ++
    (match r.digital with | some b => [b] | none => []) ++
    (match r.stamp with | some t => bytesLE 3 t.toNat | none => [])

/-- A pass marker's ten bytes (R182). -/
def PassMarker.bytes (m : PassMarker) : List Byte :=
  [0x02, BitVec.ofNat 8 (bitAt 0 (decide (m.status = .aborted)) + bitAt 6 m.loss)] ++ bytesLE 2 m.passNumber.toNat ++
    [BitVec.ofNat 8 m.sampleCount, BitVec.ofNat 8 m.missedTicks.toNat] ++ bytesLE 4 m.residue.toNat

/-- A record's bytes (10.8). -/
def Record.bytes : Record → List Byte
  | .sample r => r.bytes
  | .marker m => m.bytes

/-- A record with its LOSS flag set, as delivered first after a loss (R147). -/
def Record.withLoss : Record → Record
  | .sample r => .sample { r with flags.loss := true }
  | .marker m => .marker { m with loss := true }

/-! ## The frame envelope (TABLE 9.2) -/

/-- The sum of a list of bytes modulo 256. -/
def byteSum (bs : List Byte) : Byte := bs.foldl (· + ·) 0

/-- The CHK byte of a frame: it makes the sum of LEN, KIND, TAG, the body and CHK zero modulo 256 (R157). -/
def Frame.chk (f : Frame) : Byte := 0 - byteSum (BitVec.ofNat 8 f.body.length :: f.kind :: f.tag :: f.body)

/-- A frame's bytes in the order sent (TABLE 9.2). -/
def Frame.bytes (f : Frame) : List Byte :=
  [Config.startByte, BitVec.ofNat 8 f.body.length, f.kind, f.tag] ++ f.body ++ [f.chk]

/-- A frame is LEN + 5 bytes long (R157). -/
def Frame.size (f : Frame) : Nat := f.body.length + 5

end Sys2Proof.Machine
end

