-- ==== Sys2Proof/Machine/Formation.lean ====
section
/-! DEFINITION. The ideal codes of the Converter (R67 to R69) and the formation of a reported value (R87 to R97). -/

namespace Sys2Proof.Machine

/-! ## Codes (Section 4) -/

/-- The code of an input in a bipolar range of half-span `r`, and whether it overranges: offset binary, the upper end
open (R68, R69). The quotient is the greatest whole number not above it. -/
def bipolarCode (r v : Int) : Nat × Bool :=
  if v < -r then (0, true)
  else if r ≤ v then (16383, true)
  else ((8192 + v * 8192 / r).toNat, false)

/-- The code of an input in UNI10, and whether it overranges: both ends within the range (R67, R69). -/
def unipolarCode (v : Int) : Nat × Bool :=
  if v < 0 then (0, true)
  else if 10 * Config.volt < v then (16383, true)
  else ((v * 16383 / (10 * Config.volt)).toNat, false)

/-- The ideal code of an input in a range, and its overrange (R67 to R69; log 11). -/
def convert (range : Range) (v : Int) : Nat × Bool :=
  match range with
  | .bip10 => bipolarCode (10 * Config.volt) v
  | .bip5 => bipolarCode (5 * Config.volt) v
  | .bip2 => bipolarCode (5 * Config.volt / 2) v
  | .uni10 => unipolarCode v

/-! ## Limits (5.4.1) -/

/-- TABLE 5.3: the zone after a step, by the first matching line. H - Y is not taken below 0, nor L + Y above 16383
(R87). Where H - Y is below 0 and L is 0, HIGH returns to NORMAL at raw code 0, and where L + Y is above 16383 and H is
16383, LOW returns at 16383, though R88 says there is no way back: R87's bounds are followed, the model's choice (log 22). -/
def Profile.zoneAfter (p : Profile) (zone : Zone) (raw : Nat) : Zone :=
  match zone with
  | .normal => if p.high.toNat < raw then .high else if raw < p.low.toNat then .low else .normal
  | .high =>
    if raw < p.low.toNat then .low else if raw ≤ p.high.toNat - p.hysteresis.toNat then .normal else .high
  | .low =>
    if p.high.toNat < raw then .high
    else if min (p.low.toNat + p.hysteresis.toNat) 16383 ≤ raw then .normal else .low

/-- The judgements a value is formed under: HIGH, LOW, OVR and the DIN byte (R92). -/
structure Judgement where
  high : Bool
  low : Bool
  ovr : Bool
  din : Byte
  deriving DecidableEq, Repr

/-- HIGH and LOW as the zone stands, both false with limits disabled (R90, R92). -/
def Profile.zoneJudgement (p : Profile) (zone : Zone) (ovr : Bool) (din : Byte) : Judgement :=
  { high := p.limits && decide (zone = .high), low := p.limits && decide (zone = .low), ovr, din }

/-- HIGH and LOW of a SAMPLE: without a zone and without hysteresis (R76). -/
def Profile.plainJudgement (p : Profile) (raw : Nat) (ovr : Bool) (din : Byte) : Judgement :=
  { high := p.limits && decide (p.high.toNat < raw), low := p.limits && decide (raw < p.low.toNat), ovr, din }

/-! ## Override, floor and form (5.5 to 5.7) -/

/-- Whether a condition source is true (R92). -/
def Judgement.holds (j : Judgement) : Condition → Bool
  | .din line => j.din.getLsbD line.val
  | .high => j.high
  | .low => j.low
  | .ovr => j.ovr

/-- A slot's bit of the condition vector: enabled, and its source true (R92). -/
def Judgement.slotBit (j : Judgement) (slot : ConditionSlot) : Bool := slot.enabled && j.holds slot.source

/-- The condition vector V (R92). -/
def Profile.vector (p : Profile) (j : Judgement) : Fin 16 :=
  Fin.ofNat 16 (bitAt 0 (j.slotBit p.slot0) + bitAt 1 (j.slotBit p.slot1) + bitAt 2 (j.slotBit p.slot2) +
    bitAt 3 (j.slotBit p.slot3))

/-- The entries of one half of a page. -/
def Page.entries (pg : Page) : Half → Vector Word16 256
  | .a => pg.entriesA
  | .b => pg.entriesB

/-- The state of one half of a page. -/
def Page.state (pg : Page) : Half → HalfState
  | .a => pg.stateA
  | .b => pg.stateB

/-- The other half. -/
def Half.other : Half → Half
  | .a => .b
  | .b => .a

/-- The standby half: the one that is not live (R105). -/
def Page.standby (pg : Page) : Half := pg.live.other

/-- Entry `i` of a half. -/
def entryAt (t : Vector Word16 256) (i : Nat) : Word16 := t[i]?.getD 0

/-- Interpolation between the entries of a live half, truncated toward zero (R97). -/
def interpolate (t : Vector Word16 256) (raw : Nat) : Word16 :=
  let i := raw / 64
  let f := raw % 64
  if 255 ≤ i then entryAt t 255
  else
    let low := (entryAt t i).toInt
    let high := (entryAt t (i + 1)).toInt
    BitVec.ofInt 16 (low + ((high - low) * (f : Int)).tdiv 64)

/-- A formed value and the stage that ended its formation (R99). -/
structure Formed where
  value : Word16
  overridden : Bool
  floor : Bool
  unmapped : Bool
  deriving DecidableEq, Repr

/-- A value that no override, floor or missing page marks. -/
def Formed.plain (value : Word16) : Formed := { value, overridden := false, floor := false, unmapped := false }

/-- The page a MAPPED profile reads (R96). -/
def Profile.pageFor (p : Profile) (channel : Fin 16) : Fin 16 :=
  match p.pageSource with
  | .channel => channel
  | .fixed => p.page

/-- The value in the profile's form (R95, R96). -/
def Profile.formValue (p : Profile) (tm : TranslationMap) (channel : Fin 16) (raw : Nat) : Formed :=
  match p.form with
  | .directRight => .plain (BitVec.ofNat 16 raw)
  | .directLeft => .plain (BitVec.ofNat 16 (4 * raw))
  | .signed => .plain (BitVec.ofInt 16 ((raw : Int) - 8192))
  | .mapped =>
    let pg := tm.pages.get (p.pageFor channel)
    if pg.state pg.live = .empty then { Formed.plain (BitVec.ofNat 16 raw) with unmapped := true }
    else .plain (interpolate (pg.entries pg.live) raw)

/-- The value formed: override, else floor, else form (R93, R94, R96). -/
def Profile.formed (p : Profile) (subst : Vector Word16 16) (tm : TranslationMap) (channel : Fin 16) (raw : Nat)
    (j : Judgement) : Formed :=
  if p.vector j ≠ 0 then { Formed.plain (subst.get (p.vector j)) with overridden := true }
  else if p.floorEnabled && decide (raw ≤ p.floor.toNat) then { Formed.plain (subst.get 0) with floor := true }
  else p.formValue tm channel raw

/-- The flags of a record so formed (TABLE 5.8). LOSS is the queue's alone. -/
def Formed.flags (v : Formed) (j : Judgement) : RecordFlags :=
  { ovr := j.ovr, high := j.high, low := j.low, overridden := v.overridden, floor := v.floor, unmapped := v.unmapped,
    loss := false }

end Sys2Proof.Machine
end

