-- ==== Sys2Proof/Machine/Residue.lean ====
section
/-! DEFINITION. The residue arithmetic of the check units (R125 to R128). -/

namespace Sys2Proof.Machine

/-- The `w` low bits set: all ones of a residue of width `w` (R125). -/
def onesOf (w : Nat) : BitVec 32 := BitVec.ofNat 32 (2 ^ w - 1)

/-- What a residue is loaded with at the start of a computation (R125). -/
def CheckConfig.initialResidue (c : CheckConfig) : BitVec 32 :=
  match c.initial with
  | .ones => onesOf c.width
  | .zero => 0

/-- One input bit: feedback, shift within the width, and the polynomial where the feedback is 1 (R126). -/
def absorbBit (c : CheckConfig) (r : BitVec 32) (b : Bool) : BitVec 32 :=
  let feedback := Bool.xor b (r.getLsbD (c.width - 1))
  let shifted := (r <<< 1) &&& onesOf c.width
  if feedback then shifted ^^^ c.polynomial else shifted

/-- The sixteen bits of a word in the order the configuration takes them (R127). -/
def CheckConfig.bitsOf (c : CheckConfig) (w : Word16) : List Bool :=
  let upward := (List.range 16).map fun i => w.getLsbD i
  match c.order with
  | .msbFirst => upward.reverse
  | .lsbFirst => upward

/-- One input word, absorbed whole (R127). -/
def absorbWord (c : CheckConfig) (r : BitVec 32) (w : Word16) : BitVec 32 := (c.bitsOf w).foldl (absorbBit c) r

/-- The words of a computation, one after the other (R127). -/
def absorbWords (c : CheckConfig) (r : BitVec 32) (ws : List Word16) : BitVec 32 := ws.foldl (absorbWord c) r

/-- The final value, zero-extended to 32 bits (R128). -/
def CheckUnit.final (u : CheckUnit) : BitVec 32 :=
  if u.cfg.invert then u.residue ^^^ onesOf u.cfg.width else u.residue

/-- Load a unit's residue with its initial value (R125, R131). -/
def CheckUnit.load (u : CheckUnit) : CheckUnit := { u with residue := u.cfg.initialResidue }

/-- A unit absorbs one word (R127). -/
def CheckUnit.absorb (u : CheckUnit) (w : Word16) : CheckUnit := { u with residue := absorbWord u.cfg u.residue w }

end Sys2Proof.Machine
end

