-- ==== Sys2Proof/Machine/Ops.lean ====
section
/-! DEFINITION. The named operations the commands share: service and replies of the Link Port, appends of the Result Queue, steps, passes and stops of the sequencer, pass boundaries, claims of the Converter, and the two resets. -/

namespace Sys2Proof.Machine

/-! ## States of the sequencer -/

/-- Any state other than STOPPED (R17). -/
def AcqState.active (a : AcqState) : Bool := decide (a ≠ .stopped)

/-- The sequencer is in an active state (R17). -/
def State.active (s : State) : Bool := s.seq.state.active

/-- The states in which the pass clock counts: from the pass start to the pass end or the stop (R18, R31, R34; log 8). -/
def AcqState.inPass : AcqState → Bool
  | .running _ => true
  | .paused => true
  | .halted => true
  | .stopped => false
  | .armed => false
  | .waiting => false

/-! ## The Link Port: service and replies (R163 to R165) -/

/-- The reasons of a REFUSE (TABLE 9.5). -/
inductive Reason where
  | unknownKind | badLength | badField | busy | noProgram | gap | range | notPaused | emptyHalf | notChecked
  | swapPending
  deriving DecidableEq, Repr

/-- The code of a reason (TABLE 9.5). -/
def Reason.code : Reason → Byte
  | .unknownKind => 0x01
  | .badLength => 0x02
  | .badField => 0x03
  | .busy => 0x04
  | .noProgram => 0x05
  | .gap => 0x06
  | .range => 0x07
  | .notPaused => 0x08
  | .emptyHalf => 0x09
  | .notChecked => 0x0A
  | .swapPending => 0x0B

/-- Service may begin: no request is in service and the reply buffer is empty (R163). -/
def State.portFree (s : State) : Bool := decide (s.lp.service = .idle) && s.lp.reply.isNone

/-- The service of this frame may begin: it is the head frame of the request buffer (R163). -/
def State.canServe (s : State) (f : Frame) : Bool := s.portFree && decide (s.lp.requests.head? = some f)

/-- The head frame leaves the buffer, freeing its slot (R162, R163). -/
def takeRequest (s : State) : State := { s with lp.requests := s.lp.requests.tail }

/-- A reply is placed in the reply buffer. The transmitter starts its first byte, or waits where HOLDN is low (R165, R166). -/
def putReply (r : Frame) (s : State) : State :=
  { s with lp.reply := some { reply := r, sent := 0, clock := 0, waiting := !s.pins.holdn, cut := false } }

/-- The ACK of a request (R164). -/
def ack (kind tag : Byte) (body : List Byte) (s : State) : State := putReply { kind := ackKind kind, tag, body } s

/-- The REFUSE of a request (R164). -/
def refuse (kind tag : Byte) (reason : Reason) (s : State) : State :=
  putReply { kind := kindRefuse, tag, body := [kind, reason.code] } s

/-- The reply of a request that took time is formed: it is placed in the reply buffer, or discarded where a break has
marked the request (R164, R168). -/
def finishService (r : Frame) (s : State) : State :=
  let done := { s with lp.service := .idle, lp.abandoned := false }
  if s.lp.abandoned then done else putReply r done

/-! ## The receiver (R158 to R161) -/

/-- The receiver gives up what it holds, stops the gap timer and hunts (R158, R159). -/
def discardPartial (s : State) : State := { s with lp.rx := .hunt, lp.gap := none }

/-- The receiver takes a byte into the frame: its next state, the gap timer restarted (R159). -/
def keepByte (rx : Receiver) (s : State) : State := { s with lp.rx := rx, lp.gap := some 0 }

/-- A partial frame is discarded with LINK_ERROR (R158 to R160). -/
def linkError (s : State) : State := raise .linkError (discardPartial s)

/-- A complete frame joins the request buffer at the tail; where the buffer is full it is discarded with LINK_ERROR (R161). -/
def joinBuffer (f : Frame) (s : State) : State :=
  if s.lp.requests.length < Config.requestSlots then { s with lp.requests := s.lp.requests ++ [f] } else raise .linkError s

/-- The CHK byte ends a frame: it is judged, and joins the request buffer or is discarded with LINK_ERROR (R161). -/
def completeFrame (len kind tag : Byte) (taken : List Byte) (chk : Byte) (s : State) : State :=
  if byteSum (len :: kind :: tag :: (taken ++ [chk])) ≠ 0 then linkError s
  else joinBuffer { kind, tag, body := taken } (discardPartial s)

/-- The receiver looks at LRX: not after a break until the line is high again (R167), nor while RSTN is low (R183). -/
def State.listening (s : State) : Bool := !s.lp.inBreak && s.pins.rstn

/-- Bytes on LRX are received: not while the receiver waits for the line to rise after a low stop bit (R160). -/
def State.receiving (s : State) : Bool := s.listening && !s.lp.badStop

/-- LRX has risen after a low stop bit; a line low for 20 bit times has been found a break before (R160, R167). -/
def State.framingDue (s : State) : Bool := s.listening && s.lp.badStop && s.pins.lrx

/-- A framing error: the wait is over, and outside HUNT the partial frame is discarded with LINK_ERROR (R160). -/
def framingError (s : State) : State :=
  let risen := { s with lp.badStop := false }
  if s.lp.rx = .hunt then risen else linkError risen

/-- The gap between two bytes of a frame has exceeded 5000 microseconds (R159). -/
def State.gapExceeded (s : State) : Bool :=
  match s.lp.gap with
  | some n => decide (Config.gapLimit < n)
  | none => false

/-- A gap above 5000 microseconds ends the partial frame with LINK_ERROR, and the next byte is judged in HUNT (R159). -/
def judgeGap (s : State) : State := if s.gapExceeded then linkError s else s

/-- A byte is taken by the receiver's state (R158, TABLE 9.3). -/
def takeByte (b : Byte) (s : State) : State :=
  match s.lp.rx with
  | .hunt => if b = Config.startByte then keepByte .headerLen s else s
  | .headerLen => if Config.maxBody < b.toNat then linkError s else keepByte (.headerKind b) s
  | .headerKind len => keepByte (.headerTag len b) s
  | .headerTag len kind =>
    if len = 0 then keepByte (.check len kind b []) s else keepByte (.body len kind b []) s
  | .body len kind tag taken =>
    if taken.length + 1 = len.toNat then keepByte (.check len kind tag (taken ++ [b])) s
    else keepByte (.body len kind tag (taken ++ [b])) s
  | .check len kind tag taken => completeFrame len kind tag taken b s

/-- A byte received: the gap before it is judged (R159), then the receiver takes it (R158). -/
def receiveByte (b : Byte) (s : State) : State := if s.receiving then takeByte b (judgeGap s) else s

/-- A whole frame with this body can arrive now: the line is received, the receiver hunts, the body fits (R157, R158). -/
def State.canArrive (s : State) (body : List Byte) : Bool :=
  s.receiving && decide (s.lp.rx = .hunt) && decide (body.length ≤ Config.maxBody)

/-- Service begins: the frame leaves the buffer, its LEN is judged (R178), and its owner acts and forms the reply (R163). -/
def beginService (kind tag : Byte) (lengthOk : Bool) (owner : State → State) (s : State) : State :=
  if lengthOk then owner (takeRequest s) else refuse kind tag .badLength (takeRequest s)

/-- A request command (log 2): the service of its frame where that may begin (R163). Otherwise the frame arrives whole,
the gap before it being judged (R159), and joins the buffer (R161); it is served at once where the port is free and
nothing waits before it. -/
def serve (kind tag : Byte) (body : List Byte) (lengthOk : Bool) (owner : State → State) (s : State) : State :=
  if s.canServe { kind, tag, body } then beginService kind tag lengthOk owner s
  else if (judgeGap s).canArrive body then
    let joined := joinBuffer { kind, tag, body } (judgeGap s)
    if joined.canServe { kind, tag, body } then beginService kind tag lengthOk owner joined else joined
  else s

/-- RDY: the part can accept another frame; negated while RSTN is low (R162, R183). -/
def rdy (s : State) : Bool := s.pins.rstn && decide (s.lp.requests.length < Config.requestSlots)

/-! ## The Result Queue (Section 8) -/

/-- The count of records (R138). -/
def State.count (s : State) : Nat := s.rq.records.length

/-- The head record gives way: the loss mark and QUEUE_LOSS are set (R146). -/
def dropOldest (s : State) : State :=
  raise .queueLoss { s with rq.records := s.rq.records.tail, rq.lossMark := true }

/-- A record joins the tail; under DISCARD a full queue first gives up its head (R141, R142, R146). -/
def pushRecord (r : Record) (s : State) : State :=
  let room := if s.rq.policy = .discard ∧ Config.queueCapacity ≤ s.count then dropOldest s else s
  { room with rq.records := room.rq.records ++ [r] }

/-- The level test of an append, given the count before it (R149). -/
def levelTest (before : Nat) (s : State) : State :=
  if before < s.rq.level ∧ s.rq.level ≤ s.count then raise .queueLevel s else s

/-- Check Unit A absorbs a reported value (R132). -/
def absorbA (value : Word16) (s : State) : State := { s with ck.a := s.ck.a.absorb value }

/-- A sample record is appended: Unit A absorbs its value, the level test is made, the sequencer counts it (R141). -/
def appendSample (r : SampleRecord) (s : State) : State :=
  let tested := levelTest s.count (absorbA r.value (pushRecord (.sample r) s))
  { tested with seq.sampleCount := tested.seq.sampleCount + 1 }

/-- The pass marker of the pass in progress (R41, R133). -/
def markerOf (status : MarkerStatus) (s : State) : PassMarker :=
  { passNumber := s.seq.passNumber, status, sampleCount := s.seq.sampleCount, missedTicks := s.seq.missedTicks,
    residue := s.ck.a.final, loss := false }

/-- A pass marker is offered and appended under either policy (R41, R142, R146). -/
def appendMarker (status : MarkerStatus) (s : State) : State :=
  levelTest s.count (pushRecord (.marker (markerOf status s)) s)

/-! ## Pass boundaries (R42, TABLE 2.5) -/

/-- Every staged profile record becomes the active record of its profile (R82). -/
def Formatter.install (fm : Formatter) : Formatter :=
  { fm with active := Vector.ofFn fun i => (fm.staged.get i).getD (fm.active.get i),
            staged := Vector.replicate 16 none }

/-- A flip: the standby half becomes live; the states and contents of the halves stay (R118). -/
def Page.flip (pg : Page) : Page := { pg with live := pg.live.other, pending := false, lastResidue := 0 }

/-- Every page with swap pending flips (R120). -/
def TranslationMap.flipPending (tm : TranslationMap) : TranslationMap :=
  { tm with pages := Vector.ofFn fun i => if (tm.pages.get i).pending then (tm.pages.get i).flip else tm.pages.get i }

/-- A pass boundary reaches the Formatter and the Translation Map (R33, R42). -/
def boundary (s : State) : State := { s with fm := s.fm.install, tm := s.tm.flipPending }

/-! ## The Converter (Section 4) -/

/-- A claim: the multiplexer is set and the first conversion samples its input and starts (R66, R70). -/
def claimConverter (claimant : Claimant) (channel : Fin 16) (range : Range) (asked : Averaging) (s : State) : State :=
  { s with cv := { mux := channel,
                   claim := some { claimant, channel, range, asked, done := 0, sum := 0, overrange := false,
                                   input := s.pins.ain.get channel, left := Config.conversionMicros } } }

/-- The claim of a claimant, if it holds the Converter, ends without a completion (R73). -/
def abandonClaim (claimant : Claimant) (s : State) : State :=
  match s.cv.claim with
  | some c => if c.claimant = claimant then { s with cv.claim := none } else s
  | none => s

/-! ## Entry to STOPPED (R42) and stops (R40) -/

/-- The line watcher, the comparator and the level monitor go idle, a monitor conversion being abandoned (R48, R50, R58). -/
def stopTriggers (s : State) : State :=
  let idle := abandonClaim .monitor s
  { idle with tu := { idle.tu with lineWatching := false, lineDue := false, cmpWatching := false, cmpDue := false,
                                   monitor := .idle, monitorTimer := none } }

/-- Steps 1 and 2 of R42: STOPPED, every timer and the pause mark abandoned, the end cause set. -/
def haltSequencer (cause : EndCause) (s : State) : State :=
  { s with seq := { s.seq with state := .stopped, pacer := none, stepTimer := .idle, settle := none,
                               pauseMark := false, endCause := cause } }

/-- The rest pattern is written to the output latch (R61). -/
def writeRest (s : State) : State := { s with dl.latch := s.dl.rest }

/-- Entry to STOPPED from a run (R42): RUN_END is set except at a RESET stop, the event is delivered, the rest pattern
is written, the triggers stop. -/
def enterStopped (cause : EndCause) (s : State) : State :=
  let halted := haltSequencer cause s
  let flagged := if cause = .reset then halted else raise .runEnd halted
  stopTriggers (writeRest (boundary flagged))

/-- Step 1 of R40: the settle and the step's conversion are abandoned. -/
def abandonStep (s : State) : State := abandonClaim .step { s with seq.settle := none }

/-- Step 2 of R40: a held record is discarded. -/
def discardHeld (s : State) : State := { s with rq.held := none }

/-- A stop in RUNNING, PAUSED, HALTED or WAITING (R40). -/
def runStop (cause : EndCause) (s : State) : State :=
  let cleared := discardHeld (abandonStep s)
  let closed :=
    if s.seq.state ≠ .waiting ∧ 1 ≤ s.seq.sampleCount then appendMarker .aborted cleared else cleared
  enterStopped cause closed

/-! ## Steps and passes (R23, R24, R29, R33, R34) -/

/-- The entry at the step index (R10). -/
def State.entry (s : State) : Entry := s.ps.slots.get s.seq.stepIndex

/-- The step is the entry at length - 1 (R10). -/
def State.lastStep (s : State) : Bool := decide (s.seq.stepIndex.val + 1 = s.ps.length)

/-- The time a step's settle timer is started with: a DIGITAL entry's 0 is run as 1 (R24). -/
def Entry.settleTime (e : Entry) : Nat :=
  if e.source = .digital ∧ e.settle = 0 then 1 else e.settle.toNat

/-- The step timer as started: an interval of 0 expires at once (R24). -/
def StepTimer.start (interval : Nat) : StepTimer := if interval = 0 then .expired else .running interval

/-- The entry's pattern, if present, is written to the output latch (R7). -/
def writePattern (s : State) : State :=
  match s.entry.pattern with
  | some p => { s with dl.latch := p }
  | none => s

/-- A step begin (R24): a pause, or the pattern write and the start of the step and settle timers. -/
def stepBegin (s : State) : State :=
  if s.entry.pause && !s.seq.pauseMark then
    raise .paused { s with seq := { s.seq with state := .paused, stepTimer := .idle, settle := none } }
  else
    let written := writePattern s
    { written with seq := { written.seq with state := .running .settling,
                                             stepTimer := .start s.seq.ctx.stepInterval.toNat,
                                             settle := some s.entry.settleTime } }

/-- The step of entry i + 1 begins, its pause mark clear (R24, R29). -/
def nextStep (s : State) : State :=
  stepBegin { s with seq := { s.seq with stepIndex := s.seq.stepIndex + 1, pauseMark := false } }

/-- Passes started count up and hold at 65535 (R18). -/
def holdingSucc (n : BitVec 16) : BitVec 16 := if n = BitVec.allOnes 16 then n else n + 1

/-- A pass start (R23). -/
def passStart (s : State) : State :=
  stepBegin
    { s with
      seq := { s.seq with passNumber := s.seq.passNumber + 1, passesStarted := holdingSucc s.seq.passesStarted,
                          missedTicks := 0, sampleCount := 0, passClock := 0, stepIndex := 0, pauseMark := false }
      ck.a := s.ck.a.load }

/-- The start trigger in ARMED (R22): TRIGGERED, the pacer, the first pass. Under PACER sampling the comparator's next
sample is at a pacer expiry, so a sample of ARMED not yet taken is not taken (R51; log 14). -/
def startTrigger (s : State) : State :=
  let marked := raise .triggered s
  passStart
    { marked with
      seq.pacer := if s.seq.ctx.passInterval = 0 then none else some s.seq.ctx.passInterval.toNat
      tu.cmpDue := s.tu.cmpDue && decide (s.tu.cfg.sampling = .timebase) }

/-- The continuation after the pass-end event (R34). -/
def passContinue (stopCause : Bool) (s : State) : State :=
  if stopCause && s.seq.ctx.stopLimit then enterStopped .limit s
  else if s.seq.ctx.passLimit ≠ 0 ∧ s.seq.passesStarted = s.seq.ctx.passLimit then enterStopped .complete s
  else if s.seq.ctx.passInterval = 0 then passStart s
  else { s with seq := { s.seq with state := .waiting, stepTimer := .idle, settle := none } }

/-- The pass end (R33): the COMPLETE marker, PASS_END, the pass-end event, the continuation. -/
def passEnd (stopCause : Bool) (s : State) : State :=
  passContinue stopCause (boundary (raise .passEnd (appendMarker .complete s)))

/-- After a step's record has been appended (R29). -/
def afterAppend (stopCause : Bool) (s : State) : State :=
  if (stopCause && s.seq.ctx.stopLimit && !s.lastStep) = true then runStop .limit s
  else if s.lastStep then passEnd stopCause s
  else if s.seq.stepTimer = .expired then nextStep s
  else { s with seq.state := .running .spacing }

/-- A sample record is offered to the queue (R28, R141, R146): appended, or placed in the held slot (R31). -/
def offerSample (o : Offer) (s : State) : State :=
  if s.rq.policy = .halt ∧ Config.sampleLimit ≤ s.count then
    raise .halted { s with rq.held := some o, seq.state := .halted }
  else afterAppend o.stopCause (appendSample o.record s)

/-- The held record is appended where the count has come below 1023, and the sequencer goes on from R29 (R144, R32). -/
def releaseHeld (s : State) : State :=
  match s.rq.held with
  | some o =>
    if s.count < Config.sampleLimit then afterAppend o.stopCause (appendSample o.record (discardHeld s)) else s
  | none => s

/-- A pause release: the paused step proceeds from its pattern write (R26). -/
def releasePause (s : State) : State := stepBegin { s with seq.pauseMark := true }

/-! ## Triggers (R49, R54) -/

/-- The meaning of a TRIG edge to the sequencer (TABLE 3.2). -/
def edgeReport (s : State) : State :=
  match s.seq.state with
  | .stopped => s
  | .armed => if s.seq.ctx.start = .line then startTrigger s else s
  | .paused =>
    if s.seq.ctx.release = .line then releasePause s else if s.seq.ctx.stopLine then runStop .line s else s
  | .running _ => if s.seq.ctx.stopLine then runStop .line s else s
  | .halted => if s.seq.ctx.stopLine then runStop .line s else s
  | .waiting => if s.seq.ctx.stopLine then runStop .line s else s

/-- The meaning of a pattern event to the sequencer (R54, TABLE 2.8). -/
def patternReport (s : State) : State :=
  match s.seq.state with
  | .stopped => s
  | .armed => if s.seq.ctx.start = .pattern then startTrigger s else s
  | .paused => if s.seq.ctx.stopPattern then runStop .pattern s else s
  | .running _ => if s.seq.ctx.stopPattern then runStop .pattern s else s
  | .halted => if s.seq.ctx.stopPattern then runStop .pattern s else s
  | .waiting => if s.seq.ctx.stopPattern then runStop .pattern s else s

/-- The sample of TRIG is an edge of the configured polarity (R48). -/
def State.isEdge (s : State) : Bool :=
  match s.tu.cfg.polarity with
  | .rising => !s.tu.lineLevel && s.pins.trig
  | .falling => s.tu.lineLevel && !s.pins.trig

/-- The masked byte of a comparator sample (R50). -/
def State.maskedDin (s : State) : Byte := s.pins.din &&& s.tu.cfg.mask

/-- The sample matches the compare value under the mask (R52). -/
def State.sampleMatches (s : State) : Bool := decide (s.maskedDin = s.tu.cfg.compare &&& s.tu.cfg.mask)

/-- The sample is a pattern event (R52 to R54). -/
def State.isPatternEvent (s : State) : Bool :=
  decide (s.tu.cfg.mask ≠ 0) &&
    match s.tu.cfg.mode with
    | .matching => s.sampleMatches && !s.tu.prevMatch
    | .change => decide (s.maskedDin ≠ s.tu.prevMasked)

/-- The watcher keeps its sample as the one before the next (R48). -/
def keepLineSample (s : State) : State := { s with tu.lineLevel := s.pins.trig, tu.lineDue := false }

/-- The comparator keeps its sample: the previous masked byte and the previous-match mark (R50). -/
def keepPatternSample (s : State) : State :=
  { s with tu.prevMasked := s.maskedDin, tu.prevMatch := s.sampleMatches, tu.cmpDue := false }

/-- The watcher takes its sample of TRIG, and an edge is reported at the sample that found it (R48, R49). -/
def sampleLine (s : State) : State := if s.isEdge then edgeReport (keepLineSample s) else keepLineSample s

/-- The comparator takes its sample of DIN; a pattern event sets PATTERN and is reported (R50, R54). -/
def samplePattern (s : State) : State :=
  if s.isPatternEvent then patternReport (raise .pattern (keepPatternSample s)) else keepPatternSample s

/-! ## The actions of CLEAR -/

/-- EMPTY_QUEUE (R153). -/
def emptyQueueAction (s : State) : State := releaseHeld { s with rq.records := [], rq.lossMark := false }

/-- ERASE_PROGRAM (R15). -/
def eraseProgramAction (s : State) : State := { s with ps := .powerOn, fm.zones := Vector.replicate 64 .normal }

/-- ERASE_MAPS (R123). -/
def eraseMapsAction (s : State) : State := { s with tm := .powerOn }

/-- REST_OUTPUTS (R63). -/
def restOutputsAction (s : State) : State := writeRest s

/-- The condition flags as two bytes (TABLE 10.11). -/
def State.flagBytes (s : State) : List Byte := bytesLE 2 s.lp.flags.toNat

/-- The service of a CLEAR whose encoding is judged by R179 and whose state by R173; the named flags are cleared and the
named actions taken in order. -/
def clearOwner (tag : Byte) (mask : BitVec 16) (actions : Byte) (s : State) : State :=
  if 16384 ≤ mask.toNat ∨ 16 ≤ actions.toNat then refuse kindClear tag .badField s
  else if s.active && (actions.getLsbD 1 || actions.getLsbD 2 || actions.getLsbD 3) then refuse kindClear tag .busy s
  else
    let s0 := clearFlags (mask.setWidth 14) s
    let s1 := if actions.getLsbD 0 then emptyQueueAction s0 else s0
    let s2 := if actions.getLsbD 1 then eraseProgramAction s1 else s1
    let s3 := if actions.getLsbD 2 then eraseMapsAction s2 else s2
    let s4 := if actions.getLsbD 3 then restOutputsAction s3 else s3
    ack kindClear tag s4.flagBytes s4

/-! ## The resets -/

/-- The stop a RESET causes in an active state (R44): nothing in flight is kept and no marker is appended. -/
def resetStop (s : State) : State := enterStopped .reset (discardHeld (abandonStep s))

/-- What the RESET then does to every block (R44, R64, R78, R104, R137, R155, R175). The idle pass clock keeps its value
(log 16). -/
def resetBlocks (s : State) : State :=
  { s with
    seq := { s.seq with passNumber := 0, stepIndex := 0, sampleCount := 0, settle := none, stepTimer := .idle,
                        pacer := none, pauseMark := false }
    tu := { s.tu with lineWatching := false, lineDue := false, cmpWatching := false, cmpDue := false, monitor := .idle,
                      monitorTimer := none, seenFalse := false }
    dl.latch := s.dl.rest
    cv.claim := none
    fm.zones := Vector.replicate 64 .normal
    ck.a := s.ck.a.load
    rq.records := []
    rq.held := none
    rq.lossMark := false
    lp.flags := 0 }

/-- A RESET request takes effect (R44, R175). -/
def resetEffect (s : State) : State := resetBlocks (if s.active then resetStop s else s)

/-- Power-on reset (R183): every block at its power-on values. The pins, the outside and the model's queue stand. -/
def powerOnReset (s : State) : State := .powerOn s.pins s.coming s.pending

/-! ## The transmitter (R165, R166, R168) -/

/-- The reply buffer empties. If the reply was that of RESET, the reset takes effect (R165, R168). -/
def endReply (t : Transmission) (s : State) : State :=
  let emptied := { s with lp.reply := none }
  if t.reply.kind = ackKind kindReset then resetEffect emptied else emptied

/-- The reply ends by a break: LINK_BREAK is set when it is done (R168, steps 4 and 5). -/
def cutReply (t : Transmission) (s : State) : State := raise .linkBreak (endReply t s)

/-! ## When the part's own events are due (R24, R30, R35, R56, R70, R75, R135, R166, R167) -/

/-- The step's settle timer has run out. -/
def State.settleDue (s : State) : Bool :=
  decide (s.seq.state = .running .settling) && decide (s.seq.settle = some 0)

/-- The step timer has run out. -/
def State.stepTimerDue (s : State) : Bool := decide (s.seq.stepTimer = .running 0)

/-- The pacer has run out. -/
def State.pacerDue (s : State) : Bool := decide (s.seq.pacer = some 0)

/-- The conversion in progress has had its 5 microseconds. -/
def State.conversionDue (s : State) : Bool :=
  match s.cv.claim with
  | some c => decide (c.left = 0)
  | none => false

/-- The monitor's interval timer has run out in TIMING. -/
def State.monitorDue (s : State) : Bool :=
  decide (s.tu.monitor = .timing) && decide (s.tu.monitorTimer = some 0)

/-- Unit B's entry of this microsecond is to be absorbed. -/
def State.absorbDue (s : State) : Bool :=
  s.ck.job.isSome && s.ck.absorbDue && decide (s.ck.entryCount < Config.halfEntries)

/-- The line watcher's sample of this microsecond is to be taken. -/
def State.lineDue (s : State) : Bool := s.tu.lineWatching && s.tu.lineDue

/-- The comparator's sample of this microsecond is to be taken. -/
def State.cmpDue (s : State) : Bool := s.tu.cmpWatching && s.tu.cmpDue

/-- The link speed in bits a second (TABLE 9.1). -/
def Speed.baud : Speed → Nat
  | .s19200 => 19200
  | .s57600 => 57600
  | .s115200 => 115200
  | .s460800 => 460800

/-- The least whole number of microseconds not below 20 bit times (R167). -/
def Speed.breakMicros (v : Speed) : Nat := (20 * Config.bitTime + v.baud - 1) / v.baud

/-- LRX has been low for 20 bit times and the detector is ready (R167). -/
def State.breakDue (s : State) : Bool :=
  !s.lp.inBreak && !s.pins.lrx && decide (s.lp.speed.breakMicros ≤ s.lp.lowFor)

/-- LRX is high after a break (R167). -/
def State.breakEndDue (s : State) : Bool := s.lp.inBreak && s.pins.lrx

/-- The byte going out has had its ten bit times (R156, R165); whether it is the reply's last. -/
def State.byteEnd (s : State) (last : Bool) : Bool :=
  match s.lp.reply with
  | some t =>
    !t.waiting && decide (Config.byteTime ≤ t.clock) &&
      (if last then decide (t.sent + 1 = t.reply.size) else decide (t.sent + 1 < t.reply.size))
  | none => false

/-- The transmitter waits on HOLDN and HOLDN is high (R166). -/
def State.holdReleaseDue (s : State) : Bool :=
  match s.lp.reply with
  | some t => t.waiting && s.pins.holdn
  | none => false

end Sys2Proof.Machine
end

