-- ==== Sys2Proof/Machine/CheckRequests.lean ====
section
/-! DEFINITION. The request of the Check Units (Section 7): CHECK SET. -/

namespace Sys2Proof.Machine

/-- A configuration set in a unit: Unit A also loads its residue, Unit B keeps it (R129). -/
def setCheck (unit : Half) (cfg : CheckConfig) (s : State) : State :=
  match unit with
  | .a => { s with ck.a := { cfg, residue := cfg.initialResidue } }
  | .b => { s with ck.b := { s.ck.b with cfg } }

/-- The owner of CHECK SET: the checks of TABLE 7.3 in order (R129). Unit codes are those of halves: 0x00 A, 0x01 B. -/
def checkSetRequest (tag : Byte) (body : List Byte) (s : State) : State :=
  match body with
  | unit :: bytes =>
    match half? unit with
    | none => refuse kindCheckSet tag .badField s
    | some u =>
      if u = .a ∧ s.active then refuse kindCheckSet tag .busy s
      else
        match checkConfig? bytes with
        | none => refuse kindCheckSet tag .badField s
        | some cfg => ack kindCheckSet tag (unit :: cfg.bytes) (setCheck u cfg s)
  | [] => refuse kindCheckSet tag .badLength s

/-- CHECK SET (R129). -/
def execCheckSet (tag : Byte) (body : List Byte) (s : State) : Host.Outcome State Fault Refusal :=
  .next (serve kindCheckSet tag body (decide (body.length = 9)) (checkSetRequest tag body) s)

end Sys2Proof.Machine
end

