-- ==== Sys2Proof/Machine/ConverterEvents.lean ====
section
/-! DEFINITION. The events of the Converter and its claimants: conversion end, monitor interval expiry, SAMPLE settle expiry. -/

namespace Sys2Proof.Machine

/-! ## A step's completion (R86 to R102) -/

/-- The active record of the step's profile (R86). -/
def State.stepProfile (s : State) : Profile := s.fm.active.get s.entry.profile

/-- The zone of the step's entry. -/
def State.stepZone (s : State) : Zone := s.fm.zones.get s.seq.stepIndex

/-- The zone after the step; it stands with limits disabled (R87, R90). -/
def State.zoneAfterStep (s : State) (raw : Nat) : Zone :=
  if s.stepProfile.limits then s.stepProfile.zoneAfter s.stepZone raw else s.stepZone

/-- The zone leaves NORMAL for HIGH or LOW (R89). -/
def State.crosses (s : State) (raw : Nat) : Bool :=
  decide (s.stepZone = .normal) && decide (s.zoneAfterStep raw ≠ .normal)

/-- The judgements of the step (R92). -/
def State.stepJudgement (s : State) (raw : Nat) (ovr : Bool) : Judgement :=
  s.stepProfile.zoneJudgement (s.zoneAfterStep raw) ovr s.fm.heldByte

/-- The value of the step (R93 to R97). -/
def State.stepFormed (s : State) (raw : Nat) (ovr : Bool) : Formed :=
  s.stepProfile.formed s.fm.subst s.tm s.entry.channel raw (s.stepJudgement raw ovr)

/-- The sample record of the step, with its stop-cause mark (R89, R98 to R100). -/
def State.stepOffer (s : State) (raw : Nat) (ovr : Bool) : Offer :=
  { record :=
      { step := s.seq.stepIndex, source := .analog s.entry.channel, value := (s.stepFormed raw ovr).value,
        flags := (s.stepFormed raw ovr).flags (s.stepJudgement raw ovr),
        raw := if s.stepProfile.keepRaw then some (BitVec.ofNat 14 raw) else none,
        digital := if s.entry.capture then some s.fm.heldByte else none,
        stamp := if s.stepProfile.stamp then some s.fm.heldStamp else none }
    stopCause := s.crosses raw && s.stepProfile.limitStop }

/-- The zone takes its new value and LIMIT is set on a crossing (R87, R89). -/
def updateZone (raw : Nat) (s : State) : State :=
  let moved := { s with fm.zones := putAt s.fm.zones s.seq.stepIndex (s.zoneAfterStep raw) }
  if s.crosses raw then raise .limit moved else moved

/-- A step's completion: the record is formed and offered (R28). -/
def completeStep (raw : Nat) (ovr : Bool) (s : State) : State := offerSample (s.stepOffer raw ovr) (updateZone raw s)

/-! ## A monitor completion (R57) -/

/-- The monitor's condition (R57). -/
def State.monitorCondition (s : State) (raw : Nat) : Bool :=
  match s.tu.cfg.direction with
  | .above => decide (s.tu.cfg.threshold.toNat < raw)
  | .below => decide (raw < s.tu.cfg.threshold.toNat)

/-- The monitor's judgement, by the first case that applies (R57). -/
def completeMonitor (raw : Nat) (s : State) : State :=
  if s.monitorCondition raw = false then { s with tu.monitor := .timing, tu.seenFalse := true }
  else if s.tu.seenFalse = false then { s with tu.monitor := .timing }
  else
    let idle := { s with tu.monitor := .idle, tu.monitorTimer := none }
    if s.seq.state = .armed then startTrigger idle else idle

/-! ## A SAMPLE completion (R76) -/

/-- The body of the ACK of SAMPLE (TABLE 10.7). -/
def sampleBody (s : State) (f : SampleFields) (raw : Nat) (ovr : Bool) (din : Byte) : List Byte :=
  let p := s.fm.active.get f.profile
  let j := p.plainJudgement raw ovr din
  let v := p.formed s.fm.subst s.tm f.channel raw j
  bytesLE 2 raw ++ bytesLE 2 v.value.toNat ++ [(v.flags j).byte, din]

/-- The completion of a SAMPLE: its value is formed and its reply with it (R75, R76, R77). -/
def completeSample (raw : Nat) (ovr : Bool) (s : State) : State :=
  match s.lp.service with
  | .sampleConverting tag f din =>
    finishService { kind := ackKind kindSample, tag, body := sampleBody s f raw ovr din } s
  | _ => s

/-! ## The end of a conversion (R70, R71) -/

/-- The claim after the conversion in progress: its code in the sum, counted, its overrange kept (R69, R70). -/
def Claim.afterConversion (c : Claim) : Claim :=
  { c with done := c.done + 1, sum := c.sum + (convert c.range c.input).1,
           overrange := c.overrange || (convert c.range c.input).2 }

/-- The raw code of a claim: the mean, rounded down (R71). -/
def Claim.rawCode (c : Claim) : Nat := c.sum / c.asked.count

/-- The completion of a claim is handed to its claimant (R71). -/
def completeClaim (c : Claim) (s : State) : State :=
  let idle := { s with cv.claim := none }
  match c.claimant with
  | .step => completeStep c.rawCode c.overrange idle
  | .monitor => completeMonitor c.rawCode idle
  | .sample => completeSample c.rawCode c.overrange idle

/-- A conversion ends: the next of the claim samples its input and starts, or the claim completes (R66, R70). -/
def endConversion (c : Claim) (s : State) : State :=
  if c.afterConversion.done < c.asked.count then
    { s with cv.claim := some { c.afterConversion with input := s.pins.ain.get c.channel,
                                                       left := Config.conversionMicros } }
  else completeClaim c.afterConversion s

/-- CONVERSION_END (R70). -/
def execConversionEnd (s : State) : Host.Outcome State Fault Refusal :=
  .next <|
    match s.cv.claim with
    | some c => if s.conversionDue then endConversion c s else s
    | none => s

/-- What a monitor interval expiry does: the timer restarts and the Converter is claimed for one conversion (R56). -/
def expireMonitorInterval (s : State) : State :=
  let claimed := claimConverter .monitor s.tu.cfg.monitorChannel s.tu.cfg.monitorRange .one s
  { claimed with tu.monitor := .converting, tu.monitorTimer := some s.tu.cfg.monitorInterval.toNat }

/-- MONITOR_INTERVAL_EXPIRY (R56). -/
def execMonitorIntervalExpiry (s : State) : Host.Outcome State Fault Refusal :=
  .next (if s.monitorDue then expireMonitorInterval s else s)

/-- SAMPLE_SETTLE_EXPIRY: DIN is read and the Converter claimed with the request's fields (R75). -/
def execSampleSettleExpiry (s : State) : Host.Outcome State Fault Refusal :=
  .next <|
    match s.lp.service with
    | .sampleSettling tag f 0 =>
      let claimed := claimConverter .sample f.channel f.range f.averaging s
      { claimed with lp.service := .sampleConverting tag f s.pins.din }
    | _ => s

end Sys2Proof.Machine
end

