-- ==== Sys2Proof/Machine/FormatRequests.lean ====
section
/-! DEFINITION. The requests of the Converter and of the Formatter (Sections 4 and 5): SAMPLE, PROFILE SET, PROFILE READ, SUBSTITUTE SET. -/

namespace Sys2Proof.Machine

/-- The owner of SAMPLE: its two checks, then its settle timer starts (R74, R75). -/
def sampleRequest (tag : Byte) (body : List Byte) (s : State) : State :=
  if s.active then refuse kindSample tag .busy s
  else
    match sample? body with
    | none => refuse kindSample tag .badField s
    | some f => { s with lp.service := .sampleSettling tag f f.settle.toNat }

/-- SAMPLE (R74). -/
def execSample (tag : Byte) (body : List Byte) (s : State) : Host.Outcome State Fault Refusal :=
  .next (serve kindSample tag body (decide (body.length = 6)) (sampleRequest tag body) s)

/-- An accepted PROFILE SET: active at once in STOPPED, staged in an active state (R81). -/
def setProfile (i : Fin 16) (p : Profile) (s : State) : State :=
  if s.active then { s with fm.staged := putAt s.fm.staged i (some p) }
  else { s with fm.active := putAt s.fm.active i p }

/-- The owner of PROFILE SET (R81). The ACK's disposition is 0x00 ACTIVE or 0x01 STAGED (10.6). -/
def profileSetRequest (tag : Byte) (body : List Byte) (s : State) : State :=
  match body with
  | number :: bytes =>
    match nibble? number, profile? bytes with
    | some i, some p => ack kindProfileSet tag [number, markByte s.active] (setProfile i p s)
    | _, _ => refuse kindProfileSet tag .badField s
  | [] => refuse kindProfileSet tag .badLength s

/-- PROFILE SET (R81). -/
def execProfileSet (tag : Byte) (body : List Byte) (s : State) : Host.Outcome State Fault Refusal :=
  .next (serve kindProfileSet tag body (decide (body.length = 17)) (profileSetRequest tag body) s)

/-- The staged mark and, where the slot is occupied, the staged record (10.6). -/
def stagedBytes : Option Profile → List Byte
  | some p => 0x01 :: p.bytes
  | none => [0x00]

/-- The owner of PROFILE READ (R84). -/
def profileReadRequest (tag : Byte) (body : List Byte) (s : State) : State :=
  match body with
  | [number] =>
    match nibble? number with
    | some i =>
      ack kindProfileRead tag ([number] ++ (s.fm.active.get i).bytes ++ stagedBytes (s.fm.staged.get i)) s
    | none => refuse kindProfileRead tag .badField s
  | _ => refuse kindProfileRead tag .badLength s

/-- PROFILE READ (R84). -/
def execProfileRead (tag : Byte) (body : List Byte) (s : State) : Host.Outcome State Fault Refusal :=
  .next (serve kindProfileRead tag body (decide (body.length = 1)) (profileReadRequest tag body) s)

/-- The owner of SUBSTITUTE SET: the checks of R85 in order. -/
def substituteSetRequest (tag : Byte) (body : List Byte) (s : State) : State :=
  match body with
  | start :: count :: bytes =>
    if s.active then refuse kindSubstituteSet tag .busy s
    else if count.toNat = 0 ∨ 16 < count.toNat then refuse kindSubstituteSet tag .badField s
    else if 16 < start.toNat + count.toNat then refuse kindSubstituteSet tag .range s
    else
      let table := writeFrom s.fm.subst start.toNat (words16 bytes)
      ack kindSubstituteSet tag (wordBytes table.toList) { s with fm.subst := table }
  | _ => refuse kindSubstituteSet tag .badLength s

/-- LEN of SUBSTITUTE SET: 2 + 2n for the count it carries (R178). -/
def substituteSetLength : List Byte → Bool
  | _ :: n :: bytes => decide (bytes.length = 2 * n.toNat)
  | _ => false

/-- SUBSTITUTE SET (R85). -/
def execSubstituteSet (tag : Byte) (body : List Byte) (s : State) : Host.Outcome State Fault Refusal :=
  .next (serve kindSubstituteSet tag body (substituteSetLength body) (substituteSetRequest tag body) s)

end Sys2Proof.Machine
end

