-- ==== Sys2Proof/Machine/LinkEvents.lean ====
section
/-! DEFINITION. The events of the serial line and of the resets: bytes, frames, errors, breaks, the transmitter, power-on. -/

namespace Sys2Proof.Machine

/-- BYTE_RECEIVED: a byte arrives and is taken by the receiver according to its state (R158). -/
def execByteReceived (byte : Byte) (s : State) : Host.Outcome State Fault Refusal := .next (receiveByte byte s)

/-- FRAME_COMPLETE: in CHECK the byte received is CHK, and the frame is judged (R161). In another state the byte is no
CHK and the event does not happen (log 1). -/
def execFrameComplete (chk : Byte) (s : State) : Host.Outcome State Fault Refusal :=
  .next <|
    match (judgeGap s).lp.rx with
    | .check _ _ _ _ => receiveByte chk s
    | _ => s

/-- LEN_ERROR: in HEADER a LEN above 240 (R158). -/
def execLenError (len : Byte) (s : State) : Host.Outcome State Fault Refusal :=
  .next (if (judgeGap s).lp.rx = .headerLen ∧ Config.maxBody < len.toNat then receiveByte len s else s)

/-- GAP_TIMEOUT: the partial frame is discarded where its gap has exceeded 5000 microseconds (R159). -/
def execGapTimeout (s : State) : Host.Outcome State Fault Refusal := .next (judgeGap s)

/-- FRAMING_ERROR: a byte's stop bit was low. With LRX high again it is a framing error; with LRX still low the receiver
waits for its rise, or for the break that 20 bit times low make of it (R160, R167). -/
def execFramingError (s : State) : Host.Outcome State Fault Refusal :=
  .next (if s.listening then if s.pins.lrx then framingError s else { s with lp.badStop := true } else s)

/-- Steps 1 to 3 of a break: the partial frame and the request buffer are discarded, a request in service is marked,
and the receiver waits for the line (R168); a low stop bit was the break's (R160). -/
def breakPort (s : State) : State :=
  { s with lp := { s.lp with rx := .hunt, gap := none, inBreak := true, badStop := false,
                             requests := [], abandoned := decide (s.lp.service ≠ .idle) } }

/-- Steps 4 and 5 of a break: a reply being sent is cut after the byte in progress, one that waits on HOLDN at once;
with no reply LINK_BREAK is set at once (R168). -/
def breakReply (s : State) : State :=
  match s.lp.reply with
  | none => raise .linkBreak s
  | some t => if t.waiting then cutReply t s else { s with lp.reply := some { t with cut := true } }

/-- BREAK (R167, R168). -/
def execLinkBreak (s : State) : Host.Outcome State Fault Refusal :=
  .next (if s.breakDue then breakReply (breakPort s) else s)

/-- BREAK_END: LRX is high again, the detector is ready and the receiver hunts (R167). -/
def execBreakEnd (s : State) : Host.Outcome State Fault Refusal :=
  .next (if s.breakEndDue then { discardPartial s with lp.inBreak := false } else s)

/-- REPLY_BYTE_SENT: a byte other than the last has been sent. After a break the rest is discarded; otherwise the
transmitter tests HOLDN before the next byte, which follows with no idle time where HOLDN is high (R165, R166, R168). -/
def execReplyByteSent (s : State) : Host.Outcome State Fault Refusal :=
  .next <|
    match s.lp.reply with
    | some t =>
      if t.waiting = false ∧ t.sent + 1 < t.reply.size then
        if t.cut then cutReply t s
        else
          { s with lp.reply := some { t with sent := t.sent + 1, waiting := !s.pins.holdn,
                                             clock := if s.pins.holdn then t.clock - Config.byteTime else 0 } }
      else s
    | none => s

/-- REPLY_SENT: the last byte has been sent and the reply buffer empties; RESET's reply brings the reset about (R165).
A break detected in that byte sets LINK_BREAK after it (R168; log 13). -/
def execReplySent (s : State) : Host.Outcome State Fault Refusal :=
  .next <|
    match s.lp.reply with
    | some t =>
      if t.waiting = false ∧ t.sent + 1 = t.reply.size then
        if t.cut then cutReply t s else endReply t s
      else s
    | none => s

/-- HOLDN_RELEASE: the waiting transmitter starts the next byte (R166). -/
def execHoldnRelease (s : State) : Host.Outcome State Fault Refusal :=
  .next <|
    match s.lp.reply with
    | some t => if s.holdReleaseDue then { s with lp.reply := some { t with waiting := false, clock := 0 } } else s
    | none => s

/-- POWER_ON_RESET: every block takes its power-on values, the straps are read (R183; log 12). -/
def execPowerOnReset (s : State) : Host.Outcome State Fault Refusal := .next (powerOnReset s)

end Sys2Proof.Machine
end

