-- ==== Sys2Proof/Machine/LinkRequests.lean ====
section
/-! DEFINITION. The requests the Link Port serves itself (9.9): IDENTIFY, STATUS, CLEAR with its four actions, ATTENTION SET, RESET, and the frame whose kind names no request. -/

namespace Sys2Proof.Machine

/-- The body of the ACK of IDENTIFY (R171, TABLE 10.2). -/
def identifyBody : List Byte :=
  Config.familyCode ++ bytesLE 2 Config.partNumber ++
    [BitVec.ofNat 8 Config.revision, BitVec.ofNat 8 Config.programCapacity] ++ bytesLE 2 Config.queueCapacity ++
    [BitVec.ofNat 8 Config.pageCount]

/-- IDENTIFY (R171). -/
def execIdentify (tag : Byte) (body : List Byte) (s : State) : Host.Outcome State Fault Refusal :=
  .next (serve kindIdentify tag body body.isEmpty (ack kindIdentify tag identifyBody) s)

/-- The body of the ACK of STATUS, each value as it stands (R172, TABLE 10.3). -/
def statusBody (s : State) : List Byte :=
  [s.seq.state.byte, BitVec.ofNat 8 s.seq.stepIndex.val] ++ bytesLE 2 s.seq.passNumber.toNat ++
    bytesLE 2 s.seq.passesStarted.toNat ++ bytesLE 2 s.count ++ [markByte s.rq.held.isSome] ++ s.flagBytes ++
    [s.seq.missedTicks, s.pins.din, s.dl.latch, s.seq.endCause.byte] ++ bytesLE 2 s.lp.mask.toNat

/-- STATUS (R172). -/
def execStatus (tag : Byte) (body : List Byte) (s : State) : Host.Outcome State Fault Refusal :=
  .next (serve kindStatus tag body body.isEmpty (fun t => ack kindStatus tag (statusBody t) t) s)

/-- The owner of CLEAR reads the flag mask and the action set (TABLE 10.2). -/
def clearRequest (tag : Byte) (body : List Byte) (s : State) : State :=
  match body with
  | [b0, b1, actions] => clearOwner tag (BitVec.ofNat 16 (num16 b0 b1)) actions s
  | _ => refuse kindClear tag .badLength s

/-- CLEAR (R173, R179). -/
def execClear (tag : Byte) (body : List Byte) (s : State) : Host.Outcome State Fault Refusal :=
  .next (serve kindClear tag body (decide (body.length = 3)) (clearRequest tag body) s)

/-- The EMPTY_QUEUE action, as a CLEAR that names it alone (R153; log 3). -/
def execEmptyQueue (tag : Byte) (mask : BitVec 16) (s : State) : Host.Outcome State Fault Refusal :=
  .next (serve kindClear tag (clearBody mask 0x01) true (clearOwner tag mask 0x01) s)

/-- The ERASE_PROGRAM action, as a CLEAR that names it alone (R15; log 3). -/
def execEraseProgram (tag : Byte) (mask : BitVec 16) (s : State) : Host.Outcome State Fault Refusal :=
  .next (serve kindClear tag (clearBody mask 0x02) true (clearOwner tag mask 0x02) s)

/-- The ERASE_MAPS action, as a CLEAR that names it alone (R123; log 3). -/
def execEraseMaps (tag : Byte) (mask : BitVec 16) (s : State) : Host.Outcome State Fault Refusal :=
  .next (serve kindClear tag (clearBody mask 0x04) true (clearOwner tag mask 0x04) s)

/-- The REST_OUTPUTS action, as a CLEAR that names it alone (R63; log 3). -/
def execRestOutputs (tag : Byte) (mask : BitVec 16) (s : State) : Host.Outcome State Fault Refusal :=
  .next (serve kindClear tag (clearBody mask 0x08) true (clearOwner tag mask 0x08) s)

/-- The owner of ATTENTION SET: reserved bits are judged first, then the mask is replaced (R174, R179). -/
def attentionSetRequest (tag : Byte) (body : List Byte) (s : State) : State :=
  match body with
  | [b0, b1] =>
    if 16384 ≤ num16 b0 b1 then refuse kindAttentionSet tag .badField s
    else ack kindAttentionSet tag [b0, b1] { s with lp.mask := BitVec.ofNat 14 (num16 b0 b1) }
  | _ => refuse kindAttentionSet tag .badLength s

/-- ATTENTION SET (R174). -/
def execAttentionSet (tag : Byte) (body : List Byte) (s : State) : Host.Outcome State Fault Refusal :=
  .next (serve kindAttentionSet tag body (decide (body.length = 2)) (attentionSetRequest tag body) s)

/-- RESET (R175): acknowledged at its service begin; the reset takes effect when the reply ends (`endReply`). -/
def execReset (tag : Byte) (body : List Byte) (s : State) : Host.Outcome State Fault Refusal :=
  .next (serve kindReset tag body body.isEmpty (ack kindReset tag []) s)

/-- UNKNOWN_KIND (R163): a frame whose KIND names no request is refused at its service begin, the kind returned as
received (R164). -/
def execUnknownKind (kind tag : Byte) (body : List Byte) (s : State) : Host.Outcome State Fault Refusal :=
  .next (if requestKinds.contains kind then s else serve kind tag body true (refuse kind tag .unknownKind) s)

end Sys2Proof.Machine
end

