-- ==== Sys2Proof/Machine/MapRequests.lean ====
section
/-! DEFINITION. The requests of the Translation Map (Section 6): MAP LOAD, MAP COMMIT, MAP SWAP, MAP READ. -/

namespace Sys2Proof.Machine

/-- Replace the entries of one half. -/
def Page.setEntries (pg : Page) (h : Half) (t : Vector Word16 256) : Page :=
  match h with
  | .a => { pg with entriesA := t }
  | .b => { pg with entriesB := t }

/-- Replace the state of one half. -/
def Page.setState (pg : Page) (h : Half) (st : HalfState) : Page :=
  match h with
  | .a => { pg with stateA := st }
  | .b => { pg with stateB := st }

/-- Replace one page. -/
def putPage (i : Fin 16) (pg : Page) (s : State) : State := { s with tm.pages := putAt s.tm.pages i pg }

/-- An accepted MAP LOAD on a page: the values written into the standby half, which is then LOADING (R110). -/
def Page.load (pg : Page) (start : Nat) (values : List Word16) : Page :=
  (pg.setEntries pg.standby (writeFrom (pg.entries pg.standby) start values)).setState pg.standby .loading

/-- The owner of MAP LOAD: the checks of TABLE 6.3 in order (R109). -/
def mapLoadRequest (tag : Byte) (body : List Byte) (s : State) : State :=
  match body with
  | page :: start :: count :: bytes =>
    match nibble? page with
    | none => refuse kindMapLoad tag .badField s
    | some i =>
      if count.toNat = 0 ∨ 32 < count.toNat then refuse kindMapLoad tag .badField s
      else if (s.tm.pages.get i).pending then refuse kindMapLoad tag .swapPending s
      else if Config.halfEntries < start.toNat + count.toNat then refuse kindMapLoad tag .range s
      else
        ack kindMapLoad tag [page, (s.tm.pages.get i).standby.byte, HalfState.loading.byte]
          (putPage i ((s.tm.pages.get i).load start.toNat (words16 bytes)) s)
  | _ => refuse kindMapLoad tag .badLength s

/-- LEN of MAP LOAD: 3 + 2n for the count it carries (R178). -/
def mapLoadLength : List Byte → Bool
  | _ :: _ :: n :: bytes => decide (bytes.length = 2 * n.toNat)
  | _ => false

/-- MAP LOAD (R109, R110). -/
def execMapLoad (tag : Byte) (body : List Byte) (s : State) : Host.Outcome State Fault Refusal :=
  .next (serve kindMapLoad tag body (mapLoadLength body) (mapLoadRequest tag body) s)

/-- The check begins: Unit B is loaded and CHECKING the page's standby half from entry 0 (R113, R135). -/
def beginCheck (tag : Byte) (i : Fin 16) (expected : BitVec 32) (s : State) : State :=
  { s with
    ck := { s.ck with b := s.ck.b.load, job := some (i, (s.tm.pages.get i).standby), entryCount := 0,
                      absorbDue := false }
    lp.service := .commit tag expected }

/-- The owner of MAP COMMIT: its three checks, then the check begins (R112, R113). -/
def mapCommitRequest (tag : Byte) (body : List Byte) (s : State) : State :=
  match body with
  | [page, b1, b2, b3, b4] =>
    match nibble? page with
    | none => refuse kindMapCommit tag .badField s
    | some i =>
      if (s.tm.pages.get i).pending then refuse kindMapCommit tag .swapPending s
      else if (s.tm.pages.get i).state (s.tm.pages.get i).standby = .empty then
        refuse kindMapCommit tag .emptyHalf s
      else beginCheck tag i (BitVec.ofNat 32 (num32 b1 b2 b3 b4)) s
  | _ => refuse kindMapCommit tag .badLength s

/-- MAP COMMIT (R112, R113). -/
def execMapCommit (tag : Byte) (body : List Byte) (s : State) : Host.Outcome State Fault Refusal :=
  .next (serve kindMapCommit tag body (decide (body.length = 5)) (mapCommitRequest tag body) s)

/-- An accepted MAP SWAP on a page: a flip at once in STOPPED, swap pending in an active state (R118, R119). -/
def Page.swap (pg : Page) (active : Bool) : Page := if active then { pg with pending := true } else pg.flip

/-- The owner of MAP SWAP: its three checks in order (R117). The ACK's disposition is 0x00 FLIPPED or 0x01 PENDING. -/
def mapSwapRequest (tag : Byte) (body : List Byte) (s : State) : State :=
  match body with
  | [page] =>
    match nibble? page with
    | none => refuse kindMapSwap tag .badField s
    | some i =>
      let pg := s.tm.pages.get i
      if pg.pending then refuse kindMapSwap tag .swapPending s
      else if pg.state pg.standby ≠ .checked then refuse kindMapSwap tag .notChecked s
      else
        ack kindMapSwap tag [page, markByte s.active, (pg.swap s.active).live.byte] (putPage i (pg.swap s.active) s)
  | _ => refuse kindMapSwap tag .badLength s

/-- MAP SWAP (R117). -/
def execMapSwap (tag : Byte) (body : List Byte) (s : State) : Host.Outcome State Fault Refusal :=
  .next (serve kindMapSwap tag body (decide (body.length = 1)) (mapSwapRequest tag body) s)

/-- The page record as eight bytes (TABLE 10.9). -/
def Page.recordBytes (pg : Page) : List Byte :=
  [pg.live.byte, pg.stateA.byte, pg.stateB.byte, markByte pg.pending] ++ bytesLE 4 pg.lastResidue.toNat

/-- The owner of MAP READ: its two checks in order (R122). -/
def mapReadRequest (tag : Byte) (body : List Byte) (s : State) : State :=
  match body with
  | [page, half, start, count] =>
    match nibble? page, half? half with
    | some i, some h =>
      if count.toNat = 0 ∨ 64 < count.toNat then refuse kindMapRead tag .badField s
      else if Config.halfEntries < start.toNat + count.toNat then refuse kindMapRead tag .range s
      else
        ack kindMapRead tag
          ([page] ++ (s.tm.pages.get i).recordBytes ++ [half, start, count] ++
            wordBytes (readFrom ((s.tm.pages.get i).entries h) start.toNat count.toNat)) s
    | _, _ => refuse kindMapRead tag .badField s
  | _ => refuse kindMapRead tag .badLength s

/-- MAP READ (R122). -/
def execMapRead (tag : Byte) (body : List Byte) (s : State) : Host.Outcome State Fault Refusal :=
  .next (serve kindMapRead tag body (decide (body.length = 4)) (mapReadRequest tag body) s)

end Sys2Proof.Machine
end

