-- ==== Sys2Proof/Machine/MapEvents.lean ====
section
/-! DEFINITION. The events of a map check: Unit B's absorption of an entry, and the completion (R114, R135). -/

namespace Sys2Proof.Machine

/-- Unit B absorbs the entry of the half under check whose index is the entry count (R135). -/
def absorbEntry (i : Fin 16) (h : Half) (s : State) : State :=
  { s with
    ck := { s.ck with b := s.ck.b.absorb (entryAt ((s.tm.pages.get i).entries h) s.ck.entryCount),
                      entryCount := s.ck.entryCount + 1, absorbDue := false } }

/-- UNIT_B_ABSORB (R135). -/
def execUnitBAbsorb (s : State) : Host.Outcome State Fault Refusal :=
  .next <|
    match s.ck.job with
    | some (i, h) => if s.absorbDue then absorbEntry i h s else s
    | none => s

/-- The outcome of a check: the final value compared with the expected residue over all 32 bits (R114). -/
def State.checkOutcome (s : State) (expected : BitVec 32) : HalfState :=
  if s.ck.b.final = expected then .checked else .failed

/-- The completion of a check: the half's state, the last residue, MAP_CHECK, Unit B IDLE, the ACK (R114, R135). -/
def completeCheck (i : Fin 16) (h : Half) (tag : Byte) (expected : BitVec 32) (s : State) : State :=
  let outcome := s.checkOutcome expected
  let judged := putPage i { (s.tm.pages.get i).setState h outcome with lastResidue := s.ck.b.final } s
  finishService
    { kind := ackKind kindMapCommit, tag,
      body := [nibbleByte i, h.byte] ++ bytesLE 4 s.ck.b.final.toNat ++ [outcome.byte] }
    (raise .mapCheck { judged with ck.job := none })

/-- MAP_COMMIT_COMPLETION: entry 255 has been absorbed (R114; log 21). -/
def execMapCommitCompletion (s : State) : Host.Outcome State Fault Refusal :=
  .next <|
    match s.ck.job, s.lp.service with
    | some (i, h), .commit tag expected =>
      if s.ck.entryCount = Config.halfEntries then completeCheck i h tag expected s else s
    | _, _ => s

end Sys2Proof.Machine
end

