-- ==== Sys2Proof/Machine/ProgramRequests.lean ====
section
/-! DEFINITION. The requests of the Program Store (Section 1): PROGRAM LOAD, PROGRAM TRIM, PROGRAM READ. -/

namespace Sys2Proof.Machine

/-- An accepted PROGRAM LOAD: the entries written in order, their zones NORMAL, the length extended (R12). -/
def loadProgram (start : Nat) (entries : List Entry) (s : State) : State :=
  { s with
    ps := { slots := writeFrom s.ps.slots start entries, length := max s.ps.length (start + entries.length) }
    fm.zones := fillFrom s.fm.zones start .normal entries.length }

/-- The program length as one byte (10.4). -/
def State.lengthByte (s : State) : Byte := BitVec.ofNat 8 s.ps.length

/-- The owner of PROGRAM LOAD: the checks of TABLE 1.4 in order (R11). -/
def programLoadRequest (tag : Byte) (body : List Byte) (s : State) : State :=
  match body with
  | b0 :: b1 :: bytes =>
    if s.active then refuse kindProgramLoad tag .busy s
    else if b1.toNat = 0 ∨ 8 < b1.toNat then refuse kindProgramLoad tag .badField s
    else if s.ps.length < b0.toNat then refuse kindProgramLoad tag .gap s
    else if Config.programCapacity < b0.toNat + b1.toNat then refuse kindProgramLoad tag .range s
    else
      match entries? b1.toNat bytes with
      | none => refuse kindProgramLoad tag .badField s
      | some entries =>
        let loaded := loadProgram b0.toNat entries s
        ack kindProgramLoad tag [loaded.lengthByte] loaded
  | _ => refuse kindProgramLoad tag .badLength s

/-- LEN of PROGRAM LOAD: 2 + 9n for the count it carries (R178). -/
def programLoadLength : List Byte → Bool
  | _ :: n :: bytes => decide (bytes.length = 9 * n.toNat)
  | _ => false

/-- PROGRAM LOAD (R11, R12). -/
def execProgramLoad (tag : Byte) (body : List Byte) (s : State) : Host.Outcome State Fault Refusal :=
  .next (serve kindProgramLoad tag body (programLoadLength body) (programLoadRequest tag body) s)

/-- The owner of PROGRAM TRIM (R13). -/
def programTrimRequest (tag : Byte) (body : List Byte) (s : State) : State :=
  match body with
  | [k] =>
    if s.active then refuse kindProgramTrim tag .busy s
    else if s.ps.length < k.toNat then refuse kindProgramTrim tag .range s
    else ack kindProgramTrim tag [k] { s with ps.length := k.toNat }
  | _ => refuse kindProgramTrim tag .badLength s

/-- PROGRAM TRIM (R13). -/
def execProgramTrim (tag : Byte) (body : List Byte) (s : State) : Host.Outcome State Fault Refusal :=
  .next (serve kindProgramTrim tag body (decide (body.length = 1)) (programTrimRequest tag body) s)

/-- The owner of PROGRAM READ (R14). -/
def programReadRequest (tag : Byte) (body : List Byte) (s : State) : State :=
  match body with
  | [start, count] =>
    if count.toNat = 0 ∨ 8 < count.toNat then refuse kindProgramRead tag .badField s
    else if s.ps.length < start.toNat + count.toNat then refuse kindProgramRead tag .range s
    else
      ack kindProgramRead tag
        ([s.lengthByte, start, count] ++ (readFrom s.ps.slots start.toNat count.toNat).flatMap Entry.bytes) s
  | _ => refuse kindProgramRead tag .badLength s

/-- PROGRAM READ (R14). -/
def execProgramRead (tag : Byte) (body : List Byte) (s : State) : Host.Outcome State Fault Refusal :=
  .next (serve kindProgramRead tag body (decide (body.length = 2)) (programReadRequest tag body) s)

end Sys2Proof.Machine
end

