-- ==== Sys2Proof/Machine/QueueRequests.lean ====
section
/-! DEFINITION. The request of the Result Queue (Section 8): DRAIN. -/

namespace Sys2Proof.Machine

/-- The records of a reply: with the loss mark set the first of them carries LOSS (R147). -/
def delivered (lossMark : Bool) : List Record → List Record
  | [] => []
  | r :: rest => (if lossMark then r.withLoss else r) :: rest

/-- The first `n` records leave the queue; a delivery of at least one clears the loss mark (R150, R147). -/
def removeRecords (n : Nat) (s : State) : State :=
  { s with rq.records := s.rq.records.drop n
           rq.lossMark := s.rq.lossMark && (s.rq.records.take n).isEmpty }

/-- The body of the ACK of DRAIN: the number delivered, the count after the removal, the records (R150, 10.8). -/
def drainBody (n : Nat) (s : State) : List Byte :=
  let records := s.rq.records.take n
  [BitVec.ofNat 8 records.length] ++ bytesLE 2 (removeRecords n s).count ++
    (delivered s.rq.lossMark records).flatMap Record.bytes

/-- The owner of DRAIN: the removal, and the release of a held record after it, are one event (R150, R144). -/
def drainRequest (tag : Byte) (body : List Byte) (s : State) : State :=
  match body with
  | [n] =>
    if n.toNat = 0 ∨ 16 < n.toNat then refuse kindDrain tag .badField s
    else ack kindDrain tag (drainBody n.toNat s) (releaseHeld (removeRecords n.toNat s))
  | _ => refuse kindDrain tag .badLength s

/-- DRAIN (R150). -/
def execDrain (tag : Byte) (body : List Byte) (s : State) : Host.Outcome State Fault Refusal :=
  .next (serve kindDrain tag body (decide (body.length = 1)) (drainRequest tag body) s)

end Sys2Proof.Machine
end

