-- ==== Sys2Proof/Machine/RunEvents.lean ====
section
/-! DEFINITION. The events of a run: settle expiry, step timer expiry, pacer expiry, the samples of the Trigger Unit. -/

namespace Sys2Proof.Machine

/-- The DIN byte and the stamp are taken and held for the step (R27, R86). -/
def holdReading (s : State) : State :=
  { s with fm.heldByte := s.pins.din, fm.heldStamp := s.seq.passClock, seq.settle := none }

/-- The record of a DIGITAL step (R101). -/
def digitalRecord (s : State) : SampleRecord :=
  { step := s.seq.stepIndex, source := .digital, value := s.fm.heldByte.setWidth 16, flags := .clear, raw := none,
    digital := none, stamp := none }

/-- What a settle expiry does: an ANALOG step claims the Converter, a DIGITAL step offers its record (R27). -/
def expireSettle (s : State) : State :=
  let held := holdReading s
  match s.entry.source with
  | .analog =>
    let claimed := claimConverter .step s.entry.channel s.entry.range s.entry.averaging held
    { claimed with seq.state := .running .converting }
  | .digital => offerSample { record := digitalRecord held, stopCause := false } held

/-- SETTLE_EXPIRY (R27). -/
def execSettleExpiry (s : State) : Host.Outcome State Fault Refusal :=
  .next (if s.settleDue then expireSettle s else s)

/-- What a step timer expiry does: the next step from spacing; otherwise it is remembered (R30). -/
def expireStepTimer (s : State) : State :=
  if s.seq.state = .running .spacing then nextStep s else { s with seq.stepTimer := .expired }

/-- STEP_TIMER_EXPIRY (R30). -/
def execStepTimerExpiry (s : State) : Host.Outcome State Fault Refusal :=
  .next (if s.stepTimerDue then expireStepTimer s else s)

/-- Missed ticks count up and hold at 255 (R36). -/
def missTick (s : State) : State :=
  raise .tickMissed
    { s with seq.missedTicks :=
        if s.seq.missedTicks = BitVec.allOnes 8 then s.seq.missedTicks else s.seq.missedTicks + 1 }

/-- What a pacer expiry does: the next expiry is one interval on; WAITING starts a pass, a pass in progress misses the
tick (R35, R36). -/
def expirePacer (s : State) : State :=
  let next := { s with seq.pacer := some s.seq.ctx.passInterval.toNat }
  match s.seq.state with
  | .waiting => passStart next
  | .running _ => missTick next
  | .paused => missTick next
  | .halted => missTick next
  | .stopped => next
  | .armed => next

/-- PACER_EXPIRY (R36). -/
def execPacerExpiry (s : State) : Host.Outcome State Fault Refusal :=
  .next (if s.pacerDue then expirePacer s else s)

/-- TRIG_EDGE: the watcher's sample is an edge, and it is reported (R49). -/
def execTrigEdge (s : State) : Host.Outcome State Fault Refusal :=
  .next (if s.lineDue && s.isEdge then edgeReport (keepLineSample s) else s)

/-- PATTERN_EVENT: the comparator's sample is a pattern event, which sets PATTERN and is reported (R54). -/
def execPatternEvent (s : State) : Host.Outcome State Fault Refusal :=
  .next (if s.cmpDue && s.isPatternEvent then patternReport (raise .pattern (keepPatternSample s)) else s)

/-- COMPARATOR_SAMPLE: a sample is taken, whether or not it is a pattern event (R50, R51; log 7). -/
def execComparatorSample (s : State) : Host.Outcome State Fault Refusal :=
  .next (if s.cmpDue then samplePattern s else s)

/-- LINE_WATCHER_SAMPLE: a sample of TRIG is taken and kept, whether or not it is an edge (R48; log 7). -/
def execLineWatcherSample (s : State) : Host.Outcome State Fault Refusal :=
  .next (if s.lineDue then sampleLine s else s)

end Sys2Proof.Machine
end

