-- ==== Sys2Proof/Machine/RunRequests.lean ====
section
/-! DEFINITION. The requests of the Acquisition Sequencer (Section 2): ARM, STOP, RESUME. -/

namespace Sys2Proof.Machine

/-- Steps 1 and 2 of an accepted ARM: the run context and the runtime values (R21). -/
def armContext (ctx : RunContext) (s : State) : State :=
  { s with
    seq := { s.seq with ctx, passNumber := 0, passesStarted := 0, missedTicks := 0, stepIndex := 0, sampleCount := 0,
                        pauseMark := false, endCause := .none } }

/-- Step 4 of an accepted ARM: the line and pattern references are taken, the monitor's state is cleared
(R21, R48, R50, R56). -/
def armTriggers (s : State) : State :=
  { s with
    tu := { s.tu with lineWatching := true, lineLevel := s.pins.trig, lineDue := false, cmpWatching := true,
                      prevMasked := s.maskedDin, prevMatch := false, cmpDue := false, monitor := .idle,
                      monitorTimer := none, seenFalse := false } }

/-- The level monitor starts for the start source LEVEL (R56). -/
def startMonitor (s : State) : State :=
  { s with tu.monitor := .timing, tu.monitorTimer := some s.tu.cfg.monitorInterval.toNat }

/-- An accepted ARM, its actions in order (R21). -/
def armRun (f : ArmFields) (s : State) : State :=
  let s1 := armTriggers { armContext f.ctx s with fm.zones := Vector.replicate 64 .normal }
  let s2 := { s1 with rq.policy := f.policy, rq.level := f.level, seq.state := .armed }
  match f.ctx.start with
  | .now => startTrigger s2
  | .level => startMonitor s2
  | .line => s2
  | .pattern => s2

/-- The owner of ARM: the checks of TABLE 2.4 in order (R20). -/
def armRequest (tag : Byte) (body : List Byte) (s : State) : State :=
  if s.active then refuse kindArm tag .busy s
  else if s.ps.length = 0 then refuse kindArm tag .noProgram s
  else
    match arm? body with
    | none => refuse kindArm tag .badField s
    | some f =>
      let armed := armRun f s
      ack kindArm tag [armed.seq.state.byte] armed

/-- ARM (R20, R21). -/
def execArm (tag : Byte) (body : List Byte) (s : State) : Host.Outcome State Fault Refusal :=
  .next (serve kindArm tag body (decide (body.length = 13)) (armRequest tag body) s)

/-- What STOP does by the sequencer's state (R37). -/
def stopRun (s : State) : State :=
  match s.seq.state with
  | .stopped => s
  | .armed => enterStopped .request s
  | .running _ => runStop .request s
  | .paused => runStop .request s
  | .waiting => runStop .request s
  | .halted => runStop .request s

/-- The owner of STOP: the ACK is formed after entry to STOPPED (R37). -/
def stopRequest (tag : Byte) (s : State) : State :=
  let stopped := stopRun s
  ack kindStop tag [stopped.seq.endCause.byte] stopped

/-- STOP (R37). -/
def execStop (tag : Byte) (body : List Byte) (s : State) : Host.Outcome State Fault Refusal :=
  .next (serve kindStop tag body body.isEmpty (stopRequest tag) s)

/-- The owner of RESUME: NOT_PAUSED, then BAD_FIELD, else a pause release (R25, R26). -/
def resumeRequest (tag : Byte) (s : State) : State :=
  if s.seq.state ≠ .paused then refuse kindResume tag .notPaused s
  else if s.seq.ctx.release = .line then refuse kindResume tag .badField s
  else
    let released := releasePause s
    ack kindResume tag [released.seq.state.byte, BitVec.ofNat 8 released.seq.stepIndex.val] released

/-- RESUME (R25). -/
def execResume (tag : Byte) (body : List Byte) (s : State) : Host.Outcome State Fault Refusal :=
  .next (serve kindResume tag body body.isEmpty (resumeRequest tag) s)

end Sys2Proof.Machine
end

