-- ==== Sys2Proof/Machine/TriggerRequests.lean ====
section
/-! DEFINITION. The requests of the Trigger Unit and of the Digital Lines (Section 3): TRIGGER SET and OUTPUT SET. -/

namespace Sys2Proof.Machine

/-- The owner of TRIGGER SET (R47). -/
def triggerSetRequest (tag : Byte) (body : List Byte) (s : State) : State :=
  if s.active then refuse kindTriggerSet tag .busy s
  else
    match trigger? body with
    | none => refuse kindTriggerSet tag .badField s
    | some cfg => ack kindTriggerSet tag [] { s with tu.cfg := cfg }

/-- TRIGGER SET (R47). -/
def execTriggerSet (tag : Byte) (body : List Byte) (s : State) : Host.Outcome State Fault Refusal :=
  .next (serve kindTriggerSet tag body (decide (body.length = 12)) (triggerSetRequest tag body) s)

/-- The ACK of OUTPUT SET: the latch and the rest pattern as they stand (R62). -/
def outputSetAck (tag : Byte) (s : State) : State := ack kindOutputSet tag [s.dl.latch, s.dl.rest] s

/-- The owner of OUTPUT SET: the apply-now byte is judged before any other check (R62, R179). -/
def outputSetRequest (tag : Byte) (body : List Byte) (s : State) : State :=
  match body with
  | [apply, value, rest] =>
    match mark? apply with
    | none => refuse kindOutputSet tag .badField s
    | some false => outputSetAck tag { s with dl.rest := rest }
    | some true =>
      if s.active then refuse kindOutputSet tag .busy s
      else outputSetAck tag { s with dl := { latch := value, rest } }
  | _ => refuse kindOutputSet tag .badLength s

/-- OUTPUT SET (R62). -/
def execOutputSet (tag : Byte) (body : List Byte) (s : State) : Host.Outcome State Fault Refusal :=
  .next (serve kindOutputSet tag body (decide (body.length = 3)) (outputSetRequest tag body) s)

end Sys2Proof.Machine
end

