-- ==== Sys2Proof/Machine/Dispatch.lean ====
section
/-! DEFINITION. exec: one arm per command, each the direct call of its meaning. -/

namespace Sys2Proof.Machine

def exec (i : Instr) (s : State) : Host.Outcome State Fault Refusal :=
  match i with
  -- requests of the Link Port, and the actions of CLEAR
  | .identify tag body => Sys2Proof.Machine.execIdentify tag body s
  | .status tag body => Sys2Proof.Machine.execStatus tag body s
  | .clear tag body => Sys2Proof.Machine.execClear tag body s
  | .emptyQueue tag mask => Sys2Proof.Machine.execEmptyQueue tag mask s
  | .eraseProgram tag mask => Sys2Proof.Machine.execEraseProgram tag mask s
  | .eraseMaps tag mask => Sys2Proof.Machine.execEraseMaps tag mask s
  | .restOutputs tag mask => Sys2Proof.Machine.execRestOutputs tag mask s
  | .attentionSet tag body => Sys2Proof.Machine.execAttentionSet tag body s
  | .reset tag body => Sys2Proof.Machine.execReset tag body s
  -- requests of the other blocks
  | .programLoad tag body => Sys2Proof.Machine.execProgramLoad tag body s
  | .programTrim tag body => Sys2Proof.Machine.execProgramTrim tag body s
  | .programRead tag body => Sys2Proof.Machine.execProgramRead tag body s
  | .triggerSet tag body => Sys2Proof.Machine.execTriggerSet tag body s
  | .outputSet tag body => Sys2Proof.Machine.execOutputSet tag body s
  | .arm tag body => Sys2Proof.Machine.execArm tag body s
  | .stop tag body => Sys2Proof.Machine.execStop tag body s
  | .resume tag body => Sys2Proof.Machine.execResume tag body s
  | .sample tag body => Sys2Proof.Machine.execSample tag body s
  | .profileSet tag body => Sys2Proof.Machine.execProfileSet tag body s
  | .profileRead tag body => Sys2Proof.Machine.execProfileRead tag body s
  | .substituteSet tag body => Sys2Proof.Machine.execSubstituteSet tag body s
  | .mapLoad tag body => Sys2Proof.Machine.execMapLoad tag body s
  | .mapCommit tag body => Sys2Proof.Machine.execMapCommit tag body s
  | .mapSwap tag body => Sys2Proof.Machine.execMapSwap tag body s
  | .mapRead tag body => Sys2Proof.Machine.execMapRead tag body s
  | .checkSet tag body => Sys2Proof.Machine.execCheckSet tag body s
  | .drain tag body => Sys2Proof.Machine.execDrain tag body s
  | .unknownKind kind tag body => Sys2Proof.Machine.execUnknownKind kind tag body s
  -- events of the line
  | .frameComplete chk => Sys2Proof.Machine.execFrameComplete chk s
  | .lenError len => Sys2Proof.Machine.execLenError len s
  | .gapTimeout => Sys2Proof.Machine.execGapTimeout s
  | .framingError => Sys2Proof.Machine.execFramingError s
  | .linkBreak => Sys2Proof.Machine.execLinkBreak s
  | .breakEnd => Sys2Proof.Machine.execBreakEnd s
  | .replySent => Sys2Proof.Machine.execReplySent s
  | .holdnRelease => Sys2Proof.Machine.execHoldnRelease s
  | .powerOnReset => Sys2Proof.Machine.execPowerOnReset s
  -- events of a run, of the Converter and of a map check
  | .settleExpiry => Sys2Proof.Machine.execSettleExpiry s
  | .stepTimerExpiry => Sys2Proof.Machine.execStepTimerExpiry s
  | .pacerExpiry => Sys2Proof.Machine.execPacerExpiry s
  | .conversionEnd => Sys2Proof.Machine.execConversionEnd s
  | .monitorIntervalExpiry => Sys2Proof.Machine.execMonitorIntervalExpiry s
  | .sampleSettleExpiry => Sys2Proof.Machine.execSampleSettleExpiry s
  | .unitBAbsorb => Sys2Proof.Machine.execUnitBAbsorb s
  | .mapCommitCompletion => Sys2Proof.Machine.execMapCommitCompletion s
  | .trigEdge => Sys2Proof.Machine.execTrigEdge s
  | .patternEvent => Sys2Proof.Machine.execPatternEvent s
  | .byteReceived byte => Sys2Proof.Machine.execByteReceived byte s
  | .replyByteSent => Sys2Proof.Machine.execReplyByteSent s
  | .comparatorSample => Sys2Proof.Machine.execComparatorSample s
  | .lineWatcherSample => Sys2Proof.Machine.execLineWatcherSample s

end Sys2Proof.Machine
end

