-- ==== Sys2Proof/Machine/Line.lean ====
section
/-! DEFINITION. The serial line: the ten levels of a byte, what ten levels on LRX bring, how long a command's bytes are, the level of LTX (R156). -/

namespace Sys2Proof.Machine

/-- The levels of a byte on the line: a start bit low, the eight data bits from the least significant to the most
significant, a stop bit high (R156). -/
def byteLevels (b : Byte) : List Bool :=
  [false, b.getLsbD 0, b.getLsbD 1, b.getLsbD 2, b.getLsbD 3, b.getLsbD 4, b.getLsbD 5, b.getLsbD 6, b.getLsbD 7, true]

/-- The command that ten levels on LRX bring: with the stop bit high the byte of the data bits (R156), with the stop bit
low FRAMING_ERROR, which waits for LRX (R160). -/
def lineCommand : List Bool → Option Instr
  | [false, d0, d1, d2, d3, d4, d5, d6, d7, stop] =>
    if stop then
      some (.byteReceived (BitVec.ofNat 8 (bitAt 0 d0 + bitAt 1 d1 + bitAt 2 d2 + bitAt 3 d3 + bitAt 4 d4 + bitAt 5 d5 +
        bitAt 6 d6 + bitAt 7 d7)))
    else some .framingError
  | _ => none

/-- The frame a request command serves, an action of CLEAR being the CLEAR that names it alone (log 3); none for the other
commands. -/
def requestFrame? : Instr → Option Frame
  | .identify t b => some ⟨kindIdentify, t, b⟩
  | .status t b => some ⟨kindStatus, t, b⟩
  | .clear t b => some ⟨kindClear, t, b⟩
  | .emptyQueue t mask => some ⟨kindClear, t, clearBody mask 0x01⟩
  | .eraseProgram t mask => some ⟨kindClear, t, clearBody mask 0x02⟩
  | .eraseMaps t mask => some ⟨kindClear, t, clearBody mask 0x04⟩
  | .restOutputs t mask => some ⟨kindClear, t, clearBody mask 0x08⟩
  | .attentionSet t b => some ⟨kindAttentionSet, t, b⟩
  | .reset t b => some ⟨kindReset, t, b⟩
  | .programLoad t b => some ⟨kindProgramLoad, t, b⟩
  | .programTrim t b => some ⟨kindProgramTrim, t, b⟩
  | .programRead t b => some ⟨kindProgramRead, t, b⟩
  | .triggerSet t b => some ⟨kindTriggerSet, t, b⟩
  | .outputSet t b => some ⟨kindOutputSet, t, b⟩
  | .arm t b => some ⟨kindArm, t, b⟩
  | .stop t b => some ⟨kindStop, t, b⟩
  | .resume t b => some ⟨kindResume, t, b⟩
  | .sample t b => some ⟨kindSample, t, b⟩
  | .profileSet t b => some ⟨kindProfileSet, t, b⟩
  | .profileRead t b => some ⟨kindProfileRead, t, b⟩
  | .substituteSet t b => some ⟨kindSubstituteSet, t, b⟩
  | .mapLoad t b => some ⟨kindMapLoad, t, b⟩
  | .mapCommit t b => some ⟨kindMapCommit, t, b⟩
  | .mapSwap t b => some ⟨kindMapSwap, t, b⟩
  | .mapRead t b => some ⟨kindMapRead, t, b⟩
  | .checkSet t b => some ⟨kindCheckSet, t, b⟩
  | .drain t b => some ⟨kindDrain, t, b⟩
  | .unknownKind k t b => some ⟨k, t, b⟩
  | _ => none

/-- The bytes on the line that a command stands for: a request's whole frame (R157), the one byte of an event of the
receiver, none of any other event. -/
def lineBytes (c : Instr) : Nat :=
  match requestFrame? c, c with
  | some f, _ => f.size
  | none, .byteReceived _ => 1
  | none, .frameComplete _ => 1
  | none, .lenError _ => 1
  | none, .framingError => 1
  | none, _ => 0

/-- The level of LTX: high at rest and while the transmitter waits, else the level of the bit that is going out, the stop
bit's to the end (R156, R165, R166). -/
def ltx (s : State) : Bool :=
  match s.lp.reply with
  | some t =>
    t.waiting || ((byteLevels ((t.reply.bytes[t.sent]?).getD 0xFF))[t.clock / Config.bitTime]?).getD true
  | none => true

end Sys2Proof.Machine
end

