-- ==== Sys2Proof/Machine/Time.lean ====
section
/-! DEFINITION. Time: which of the part's own events is due, and one microsecond of the timebase (0.7.5; log 4, log 5, log 12). -/

namespace Sys2Proof.Machine

/-- A SAMPLE's settle timer has run out (R75). -/
def State.sampleSettleDue (s : State) : Bool :=
  match s.lp.service with
  | .sampleSettling _ _ left => decide (left = 0)
  | _ => false

/-- The 256th entry of a commit has been absorbed (R114). -/
def State.commitDone (s : State) : Bool :=
  match s.lp.service with
  | .commit _ _ => s.ck.job.isSome && decide (s.ck.entryCount = Config.halfEntries)
  | _ => false

/-- The request whose service may begin (R163). -/
def State.serviceDue (s : State) : Option Instr :=
  if s.portFree then
    match s.lp.requests with
    | f :: _ => some (requestCommand f.kind f.tag f.body)
    | [] => none
  else none

/-- The part's own events, each with whether it is due. The spec allows either order of events that fall in one
microsecond (0.7.7); this is the model's, and another is had by queueing the command (log 4). -/
def State.events (s : State) : List (Bool × Instr) :=
  [(s.conversionDue, .conversionEnd), (s.settleDue, .settleExpiry), (s.sampleSettleDue, .sampleSettleExpiry),
   (s.stepTimerDue, .stepTimerExpiry), (s.cmpDue, .comparatorSample), (s.lineDue, .lineWatcherSample),
   (s.pacerDue, .pacerExpiry), (s.monitorDue, .monitorIntervalExpiry), (s.absorbDue, .unitBAbsorb),
   (s.commitDone, .mapCommitCompletion), (s.gapExceeded, .gapTimeout), (s.framingDue, .framingError),
   (s.breakDue, .linkBreak), (s.breakEndDue, .breakEnd), (s.byteEnd false, .replyByteSent),
   (s.byteEnd true, .replySent), (s.holdReleaseDue, .holdnRelease)]

/-- The first event that is due, or else another. -/
def firstDue (other : Option Instr) : List (Bool × Instr) → Option Instr
  | [] => other
  | (isDue, event) :: rest => if isDue then some event else firstDue other rest

/-- The part's own event that is due, or else the service that may begin (log 4). -/
def State.due (s : State) : Option Instr := firstDue s.serviceDue s.events

/-- The commands of a moment: what the byte that has ended on LRX brings, then those that arrive with it (log 5). -/
def Moment.arrivals (m : Moment) : List Instr := (lineCommand m.line).toList ++ m.commands

/-- A command of a moment can happen: its bytes on LRX, if it has any, all began after the last reset ended (R183). -/
def Moment.admits (m : Moment) (sinceReset : Nat) (c : Instr) : Bool :=
  decide (lineBytes c = 0) ||
    (decide (.powerOnReset ∉ m.commands) && decide (lineBytes c * Config.byteTime ≤ sinceReset))

/-- The commands that join the queue at the outside's next moment (log 5). -/
def landing (sinceReset : Nat) : List Moment → List Instr
  | [] => []
  | m :: _ => m.arrivals.filter (m.admits sinceReset)

/-- The outside's next moment: the new pin levels (log 5). -/
def arrive (s : State) : State :=
  match s.coming with
  | [] => s
  | m :: rest => { s with pins := m.pins, coming := rest }

/-- One microsecond of a running timer. -/
def StepTimer.tick : StepTimer → StepTimer
  | .idle => .idle
  | .running left => .running (left - 1)
  | .expired => .expired

/-- One microsecond of a SAMPLE's settle timer (R75). -/
def Service.tick : Service → Service
  | .sampleSettling tag f left => .sampleSettling tag f (left - 1)
  | service => service

/-- One microsecond of the sequencer's timers and of the pass clock, which counts modulo 2^24 (R18, R24, R35; log 8). -/
def Sequencer.tick (q : Sequencer) : Sequencer :=
  { q with passClock := if q.state.inPass then q.passClock + 1 else q.passClock
           settle := q.settle.map (· - 1)
           stepTimer := q.stepTimer.tick
           pacer := q.pacer.map (· - 1) }

/-- The comparator takes a sample in this microsecond (TABLE 3.3): every one under TIMEBASE and in ARMED, otherwise at
a pacer expiry. -/
def comparatorSamples (tu : TriggerUnit) (q : Sequencer) : Bool :=
  decide (tu.cfg.sampling = .timebase) || decide (q.state = .armed) || decide (q.pacer = some 1)

/-- One microsecond of the Trigger Unit: the samples fall due, the monitor's timer counts (R48, R51, R56). -/
def TriggerUnit.tick (tu : TriggerUnit) (q : Sequencer) : TriggerUnit :=
  { tu with lineDue := tu.lineWatching
            cmpDue := tu.cmpWatching && comparatorSamples tu q
            monitorTimer := tu.monitorTimer.map (· - 1) }

/-- One microsecond of the Converter (R70). -/
def Converter.tick (cv : Converter) : Converter :=
  { cv with claim := cv.claim.map fun c => { c with left := c.left - 1 } }

/-- One microsecond of Unit B: the next entry falls due (R135). -/
def CheckUnits.tick (ck : CheckUnits) : CheckUnits :=
  { ck with absorbDue := ck.job.isSome && decide (ck.entryCount < Config.halfEntries) }

/-- One microsecond of the gap timer, which the next byte's start bit stops where the gap is not too long (R159). -/
def gapTick (lrx : Bool) : Option Nat → Option Nat
  | some n => if lrx = false ∧ n + 1 ≤ Config.gapLimit then none else some (n + 1)
  | none => none

/-- One microsecond of the byte going out; a waiting transmitter sends nothing (R165, R166). -/
def Transmission.tick (speed : Speed) (t : Transmission) : Transmission :=
  if t.waiting then t else { t with clock := t.clock + speed.baud }

/-- One microsecond of the Link Port: the gap timer, the time LRX has been low, the time since the reset, a SAMPLE's
settle, the byte going out (R159, R167, R183, R75, R165). -/
def LinkPort.tick (lp : LinkPort) (lrx : Bool) : LinkPort :=
  { lp with gap := gapTick lrx lp.gap
            lowFor := if lrx then 0 else lp.lowFor + 1
            sinceReset := min (lp.sinceReset + lp.speed.baud) Config.frameTime
            service := lp.service.tick
            reply := lp.reply.map (·.tick lp.speed) }

/-- One microsecond of the timebase in every block. -/
def advance (s : State) : State :=
  { s with seq := s.seq.tick, tu := s.tu.tick s.seq, cv := s.cv.tick, ck := s.ck.tick, lp := s.lp.tick s.pins.lrx }

/-- One microsecond: the new pin levels land, the blocks count, the commands that can have arrived join the queue. While
RSTN is low, and as it rises, the part takes its power-on values, reads the straps and receives no byte (R183; log 12). -/
def tick (s : State) : State :=
  let arrived := arrive s
  let passed := if s.pins.rstn && arrived.pins.rstn then advance arrived else powerOnReset arrived
  { passed with pending := passed.pending ++ landing passed.lp.sinceReset s.coming }

end Sys2Proof.Machine
end

