-- ==== Sys2Proof/Machine/Idle.lean ====
section
/-! DEFINITION. What the part does of itself when no command waits: the event that is due, or a microsecond passes (log 4). -/

namespace Sys2Proof.Machine

/-- With no command waiting the part takes its own event that is due; where none is due one microsecond passes. -/
def idle (s : State) : Host.Outcome State Fault Refusal :=
  match s.due with
  | some c => exec c s
  | none => .next (tick s)

/-- The command a table word spells, put at the front of the queue; the table gives no row bits (log 19). -/
def placeCommand (c : Option Instr) (s : State) : State :=
  match c with
  | some i => { s with pending := i :: s.pending }
  | none => s

end Sys2Proof.Machine
end

