-- ==== Sys2Proof/Safety.lean ====
section
/-! DEFINITION. The vocabulary of the statements: when a request is served and what its reply leaves, the bodies a host sends, the values after power-on, the part's own events, what an append, a stop and a reset leave, the body of a DRAIN's reply, and the invariants of the part. Each is written from the rules, not from the operations. -/

namespace Sys2Proof.Machine

/-! ## Requests and replies -/

/-- The service of this frame can begin: no request in service, the reply buffer empty, the frame at the head (R163). -/
def State.ready (s : State) (f : Frame) (rest : List Frame) : Prop :=
  s.lp.service = .idle ∧ s.lp.reply = none ∧ s.lp.requests = f :: rest

/-- The head frame has left the buffer and this reply is in the reply buffer, waiting before its first byte where HOLDN
is low (R163 to R166). -/
def answered (rest : List Frame) (kind tag : Byte) (body : List Byte) (s : State) : State :=
  { s with
    lp := { s.lp with requests := rest,
                      reply := some { reply := { kind, tag, body }, sent := 0, clock := 0, waiting := !s.pins.holdn,
                                      cut := false } } }

/-- The head frame has left the buffer and a REFUSE of its kind with this reason is in the reply buffer (R164). -/
def declined (rest : List Frame) (kind tag : Byte) (reason : Reason) (s : State) : State :=
  answered rest 0xFF tag [kind, reason.code] s

/-- The kinds whose request body has one length, with that length (TABLE 10.1). -/
def fixedLengths : List (Byte × Nat) :=
  [(0x01, 0), (0x02, 0), (0x03, 3), (0x04, 2), (0x05, 0), (0x11, 1), (0x12, 2), (0x18, 12), (0x19, 3), (0x20, 13),
   (0x21, 0), (0x22, 0), (0x28, 6), (0x30, 17), (0x31, 1), (0x39, 5), (0x3A, 1), (0x3B, 4), (0x40, 9), (0x48, 1)]

/-- The kinds whose body carries a count: the place of the count byte, which is one less than the fixed part, and the
size of an item (R178). -/
def countedLengths : List (Byte × Nat × Nat) := [(0x10, 1, 9), (0x32, 1, 2), (0x38, 2, 2)]

/-- The bytes of a whole frame, one BYTE_RECEIVED after the other. -/
def receiveAll : List Byte → State → Host.Outcome State Fault Refusal
  | [], s => .next s
  | b :: rest, s =>
    match exec (.byteReceived b) s with
    | .next t => receiveAll rest t
    | .fault r => .fault r
    | .refused r => .refused r

/-! ## The part's own events -/

/-- The speed of the line in bits a second (TABLE 9.1). -/
def lineSpeed : Speed → Nat
  | .s19200 => 19200
  | .s57600 => 57600
  | .s115200 => 115200
  | .s460800 => 460800

/-- The microseconds of 20 bit times (R167). -/
def breakTime : Speed → Nat
  | .s19200 => 1042
  | .s57600 => 348
  | .s115200 => 174
  | .s460800 => 44

/-- The part's own event `c` is due: a timer has run out (R27, R30, R36, R56, R75), a conversion has had its time (R70),
a sample (R48, R51) or an absorption (R135) of this microsecond is to come, a check is complete (R114), a gap is too long
(R159), LRX has risen after a low stop bit (R160), a break begins or ends (R167), a byte has gone out (R165), HOLDN is
high again (R166), or the head request may be served (R163). -/
def State.eventDue (s : State) : Instr → Prop
  | .conversionEnd => ∃ c, s.cv.claim = some c ∧ c.left = 0
  | .settleExpiry => s.seq.state = .running .settling ∧ s.seq.settle = some 0
  | .sampleSettleExpiry => ∃ tag f, s.lp.service = .sampleSettling tag f 0
  | .stepTimerExpiry => s.seq.stepTimer = .running 0
  | .comparatorSample => s.tu.cmpWatching = true ∧ s.tu.cmpDue = true
  | .lineWatcherSample => s.tu.lineWatching = true ∧ s.tu.lineDue = true
  | .pacerExpiry => s.seq.pacer = some 0
  | .monitorIntervalExpiry => s.tu.monitor = .timing ∧ s.tu.monitorTimer = some 0
  | .unitBAbsorb => s.ck.job.isSome = true ∧ s.ck.absorbDue = true ∧ s.ck.entryCount < 256
  | .mapCommitCompletion =>
    s.ck.job.isSome = true ∧ s.ck.entryCount = 256 ∧ ∃ tag expected, s.lp.service = .commit tag expected
  | .gapTimeout => ∃ n, s.lp.gap = some n ∧ 5000 < n
  | .framingError => s.lp.badStop = true ∧ s.pins.lrx = true ∧ s.lp.inBreak = false ∧ s.pins.rstn = true
  | .linkBreak => s.lp.inBreak = false ∧ s.pins.lrx = false ∧ breakTime s.lp.speed ≤ s.lp.lowFor
  | .breakEnd => s.lp.inBreak = true ∧ s.pins.lrx = true
  | .replyByteSent =>
    ∃ r, s.lp.reply = some r ∧ r.waiting = false ∧ 10000000 ≤ r.clock ∧ r.sent + 1 < r.reply.size
  | .replySent => ∃ r, s.lp.reply = some r ∧ r.waiting = false ∧ 10000000 ≤ r.clock ∧ r.sent + 1 = r.reply.size
  | .holdnRelease => ∃ r, s.lp.reply = some r ∧ r.waiting = true ∧ s.pins.holdn = true
  | c => ∃ f rest, s.ready f rest ∧ c = requestCommand f.kind f.tag f.body

/-! ## Bodies as a host lays them out (Section 10) -/

/-- The code of a start source (TABLE 10.5). -/
def StartSource.byte : StartSource → Byte
  | .now => 0
  | .line => 1
  | .pattern => 2
  | .level => 3

/-- The thirteen bytes of ARM (TABLE 10.5). -/
def ArmFields.bytes (f : ArmFields) : List Byte :=
  bytesLE 2 f.ctx.passLimit.toNat ++ bytesLE 3 f.ctx.passInterval.toNat ++ bytesLE 2 f.ctx.stepInterval.toNat ++
    [f.ctx.start.byte,
     BitVec.ofNat 8 (bitAt 0 f.ctx.stopLine + bitAt 1 f.ctx.stopPattern + bitAt 2 f.ctx.stopLimit),
     markByte (decide (f.ctx.release = .line)), markByte (decide (f.policy = .discard))] ++
    bytesLE 2 f.level

/-- The fields ARM may carry (TABLE 2.3, R20). -/
def ArmFields.valid (f : ArmFields) : Prop :=
  (f.ctx.passInterval = 0 ∨ 100 ≤ f.ctx.passInterval.toNat) ∧ 1 ≤ f.level ∧ f.level ≤ 1024 ∧
    ¬ (f.ctx.stopLine = true ∧ f.ctx.release = .line)

/-- The twelve bytes of TRIGGER SET (TABLE 10.6). -/
def TriggerConfig.bytes (c : TriggerConfig) : List Byte :=
  [markByte (decide (c.polarity = .falling)), c.mask, c.compare, markByte (decide (c.mode = .change)),
   markByte (decide (c.sampling = .pacer)), nibbleByte c.monitorChannel, c.monitorRange.byte] ++
    bytesLE 2 c.threshold.toNat ++ [markByte (decide (c.direction = .below))] ++ bytesLE 2 c.monitorInterval.toNat

/-- The six bytes of SAMPLE (TABLE 10.7). -/
def SampleFields.bytes (f : SampleFields) : List Byte :=
  [nibbleByte f.channel, f.range.byte, f.averaging.byte, nibbleByte f.profile] ++ bytesLE 2 f.settle.toNat

/-- A check configuration within TABLE 7.1. -/
def CheckConfig.valid (c : CheckConfig) : Prop :=
  8 ≤ c.width ∧ c.width ≤ 32 ∧ c.polynomial ≠ 0 ∧ c.polynomial.toNat < 2 ^ c.width

/-- A profile record within TABLE 5.1: L is not above H (R80). -/
def Profile.valid (p : Profile) : Prop := p.low.toNat ≤ p.high.toNat

/-! ## Values after power-on -/

/-- What power-on leaves, block by block (R16, R45, R64, R78, R103, R124, R137, R154, R176). -/
structure AtPowerOn (s : State) : Prop where
  program : s.ps.length = 0 ∧ ∀ i, s.ps.slots.get i = Entry.zero
  sequencer : s.seq.state = .stopped ∧ s.seq.passNumber = 0 ∧ s.seq.passesStarted = 0 ∧ s.seq.missedTicks = 0 ∧
    s.seq.stepIndex = 0 ∧ s.seq.sampleCount = 0 ∧ s.seq.pauseMark = false ∧ s.seq.endCause = .none ∧
    s.seq.settle = none ∧ s.seq.stepTimer = .idle ∧ s.seq.pacer = none
  context : s.seq.ctx = { passLimit := 0, passInterval := 0, stepInterval := 0, start := .now, stopLine := false,
                          stopPattern := false, stopLimit := false, release := .request }
  triggers : s.tu.cfg = { polarity := .rising, mask := 0x00, compare := 0x00, mode := .matching, sampling := .timebase,
                          monitorChannel := 0, monitorRange := .bip10, threshold := 8192, direction := .above,
                          monitorInterval := 100 } ∧
    s.tu.lineWatching = false ∧ s.tu.cmpWatching = false ∧ s.tu.prevMasked = 0x00 ∧ s.tu.prevMatch = false ∧
    s.tu.monitor = .idle ∧ s.tu.monitorTimer = none ∧ s.tu.seenFalse = false
  outputs : s.dl.latch = 0x00 ∧ s.dl.rest = 0x00
  converter : s.cv.mux = 0 ∧ s.cv.claim = none
  profiles : ∀ i, s.fm.active.get i = Profile.powerOn ∧ s.fm.staged.get i = none ∧ s.fm.subst.get i = 0
  zones : ∀ i, s.fm.zones.get i = .normal
  pages : ∀ i, (s.tm.pages.get i).live = .a ∧ (s.tm.pages.get i).stateA = .empty ∧ (s.tm.pages.get i).stateB = .empty ∧
    (s.tm.pages.get i).pending = false ∧ (s.tm.pages.get i).lastResidue = 0 ∧
    ∀ j, (s.tm.pages.get i).entriesA.get j = 0 ∧ (s.tm.pages.get i).entriesB.get j = 0
  checks : s.ck.a.cfg = { width := 16, polynomial := 0x1021, initial := .ones, order := .msbFirst, invert := false } ∧
    s.ck.b.cfg = s.ck.a.cfg ∧ s.ck.a.residue = 0xFFFF ∧ s.ck.b.residue = 0xFFFF ∧ s.ck.job = none ∧ s.ck.entryCount = 0
  queue : s.rq.records = [] ∧ s.rq.held = none ∧ s.rq.lossMark = false ∧ s.rq.policy = .halt ∧ s.rq.level = 512
  link : s.lp.rx = .hunt ∧ s.lp.gap = none ∧ s.lp.inBreak = false ∧ s.lp.badStop = false ∧ s.lp.lowFor = 0 ∧
    s.lp.sinceReset = 0 ∧ s.lp.requests = [] ∧ s.lp.service = .idle ∧ s.lp.abandoned = false ∧
    s.lp.reply = none ∧ s.lp.mask = 0 ∧ s.lp.speed = Speed.ofStraps s.pins.spd1 s.pins.spd0
  flags : ∀ f, s.flag f = decide (f = .powerOn)

/-! ## What a stop leaves -/

/-- A profile slot after a pass boundary: the staged record, else the active one (R82). -/
def Formatter.afterBoundary (fm : Formatter) (i : Fin 16) : Profile := (fm.staged.get i).getD (fm.active.get i)

/-- A page after a pass boundary: flipped where a swap was pending (R118, R120). -/
def Page.afterBoundary (pg : Page) : Page :=
  if pg.pending then { pg with live := (match pg.live with | .a => .b | .b => .a), pending := false, lastResidue := 0 }
  else pg

/-- A pass boundary between `s` and `t` for the Formatter and the Translation Map (R82, R120). -/
def PassBoundary (s t : State) : Prop :=
  (∀ i, t.fm.active.get i = s.fm.afterBoundary i ∧ t.fm.staged.get i = none) ∧
    ∀ i, t.tm.pages.get i = (s.tm.pages.get i).afterBoundary

/-- A record appended (R141, R142): it joins the tail, under DISCARD a full queue first gives up its head with the loss
mark and QUEUE_LOSS (R146), and QUEUE_LEVEL is set as the count reaches the level (R149). -/
def State.withRecord (r : Record) (s : State) : State :=
  let full := decide (s.rq.policy = .discard) && decide (1024 ≤ s.rq.records.length)
  let before := if full then s.rq.records.tail else s.rq.records
  let reached := decide (s.rq.records.length < s.rq.level) && decide (s.rq.level ≤ before.length + 1)
  let lossFlags := if full then s.lp.flags ||| Flag.queueLoss.bit else s.lp.flags
  { s with
    rq := { s.rq with records := before ++ [r], lossMark := s.rq.lossMark || full }
    lp.flags := if reached then lossFlags ||| Flag.queueLevel.bit else lossFlags }

/-- The marker that closes the pass in progress (R41). -/
def closingMarker (status : MarkerStatus) (s : State) : Record :=
  .marker { passNumber := s.seq.passNumber, status, sampleCount := s.seq.sampleCount, missedTicks := s.seq.missedTicks,
            residue := s.ck.a.final, loss := false }

/-- Entry to STOPPED from a run: the state, the cause, no timer, RUN_END, the boundary, the rest pattern, the watchers
and the monitor idle; all else stands (R42, R48, R50, R58; the pass clock by log 8). -/
structure RunEnded (cause : EndCause) (s t : State) : Prop where
  sequencer : t.seq = { s.seq with state := .stopped, settle := none, stepTimer := .idle, pacer := none,
                                   pauseMark := false, endCause := cause }
  link : t.lp = { s.lp with flags := s.lp.flags ||| Flag.runEnd.bit }
  boundary : PassBoundary s t
  latch : t.dl.latch = s.dl.rest ∧ t.dl.rest = s.dl.rest
  watchers : t.tu = { s.tu with lineWatching := false, lineDue := false, cmpWatching := false, cmpDue := false,
                                monitor := .idle, monitorTimer := none }
  converter : t.cv = { s.cv with claim := s.cv.claim.filter fun c => decide (c.claimant ≠ .monitor) }
  queue : t.rq = { s.rq with held := none }
  kept : t.ps = s.ps ∧ t.ck = s.ck ∧ t.fm.zones = s.fm.zones ∧ t.fm.subst = s.fm.subst ∧
    t.fm.heldByte = s.fm.heldByte ∧ t.fm.heldStamp = s.fm.heldStamp

/-- The step in progress given up: no settle, no claim of the step's, no held record (R40). -/
def State.withoutStep (s : State) : State :=
  { s with
    seq.settle := none
    cv.claim := s.cv.claim.filter fun c => decide (c.claimant ≠ .step)
    rq.held := none }

/-- A stop in RUNNING, PAUSED, HALTED or WAITING (R40): the step is given up, a pass with records is closed by an ABORTED
marker, and STOPPED is entered. -/
def RunStopped (cause : EndCause) (s t : State) : Prop :=
  RunEnded cause
    (if s.seq.state ≠ .waiting ∧ 1 ≤ s.seq.sampleCount then s.withoutStep.withRecord (closingMarker .aborted s)
      else s.withoutStep) t

/-- What the reset of a RESET leaves outside the Link Port, a run being stopped with cause RESET (R44, R64, R78, R104,
R137, R155, R175; the idle pass clock by log 16). -/
structure ResetDone (s t : State) : Prop where
  program : t.ps = s.ps
  sequencer : t.seq = { s.seq with state := .stopped, passNumber := 0, stepIndex := 0, sampleCount := 0, settle := none,
                                   stepTimer := .idle, pacer := none, pauseMark := false,
                                   endCause := if s.seq.state = .stopped then s.seq.endCause else .reset }
  triggers : t.tu = { s.tu with lineWatching := false, lineDue := false, cmpWatching := false, cmpDue := false,
                                monitor := .idle, monitorTimer := none, seenFalse := false }
  outputs : t.dl.latch = s.dl.rest ∧ t.dl.rest = s.dl.rest
  converter : t.cv = { s.cv with claim := none }
  still : s.seq.state = .stopped → t.fm.active = s.fm.active ∧ t.fm.staged = s.fm.staged ∧ t.tm = s.tm
  boundary : s.seq.state ≠ .stopped → PassBoundary s t
  formatter : t.fm.zones = Vector.replicate 64 Zone.normal ∧ t.fm.subst = s.fm.subst ∧
    t.fm.heldByte = s.fm.heldByte ∧ t.fm.heldStamp = s.fm.heldStamp
  checks : t.ck = { s.ck with a.residue := s.ck.a.cfg.initialResidue }
  queue : t.rq = { s.rq with records := [], held := none, lossMark := false }

/-! ## Records on the link -/

/-- The body of the ACK of DRAIN over the records it delivers and the count that stays: the first record carries LOSS
where the loss mark stands (R150, R147, 10.8). -/
def drainReply (lossMark : Bool) (left : Nat) : List Record → List Byte
  | [] => [0] ++ bytesLE 2 left
  | first :: others =>
    [BitVec.ofNat 8 (others.length + 1)] ++ bytesLE 2 left ++ (if lossMark then first.withLoss else first).bytes ++
      others.flatMap Record.bytes

/-! ## Invariants -/

/-- A partial frame within the envelope: LEN at most 240, and no more of the body taken than LEN allows (R157, R158). -/
def Receiver.within : Receiver → Prop
  | .hunt => True
  | .headerLen => True
  | .headerKind len => len.toNat ≤ 240
  | .headerTag len _ => len.toNat ≤ 240
  | .body len _ _ taken => len.toNat ≤ 240 ∧ taken.length < len.toNat
  | .check len _ _ taken => len.toNat ≤ 240 ∧ taken.length = len.toNat

/-- The Link Port at all times: at most four requests, each a frame the envelope can carry; the receiver's partial frame
within its LEN; a gap timed only outside HUNT and found as soon as it is above 5000 microseconds; in a break a receiver
that hunts and waits for no rise of LRX; the time since the reset bounded; one request or one reply at a time; a byte of the reply going out for no more than its ten bit times and a microsecond (R157 to R168). -/
structure LinkSafe (s : State) : Prop where
  slots : s.lp.requests.length ≤ 4
  bodies : ∀ f ∈ s.lp.requests, f.body.length ≤ 240
  receiver : s.lp.rx.within
  gap : (s.lp.rx = .hunt → s.lp.gap = none) ∧ ∀ n, s.lp.gap = some n → n ≤ 5001
  inBreak : s.lp.inBreak = true → s.lp.rx = .hunt ∧ s.lp.badStop = false
  sinceReset : s.lp.sinceReset ≤ 2450000000
  oneAtATime : s.lp.service ≠ .idle → s.lp.reply = none
  abandoned : s.lp.abandoned = true → s.lp.service ≠ .idle
  reply : ∀ t, s.lp.reply = some t → t.sent < t.reply.size ∧ t.reply.body.length ≤ 240 ∧
    t.clock < 10000000 + lineSpeed s.lp.speed

/-- A request whose measurement is under way is a SAMPLE (R75). -/
def Service.sampling : Service → Prop
  | .sampleSettling _ _ _ => True
  | .sampleConverting _ _ _ => True
  | .commit _ _ => False
  | .idle => False

/-- The queue, the held slot and the Converter's claims agree with the sequencer: R138, R142, R143, R146 and R72. -/
structure RunSafe (s : State) : Prop where
  capacity : s.rq.records.length ≤ 1024
  markerPlace : s.rq.policy = .halt → s.seq.state.inPass = true → 1 ≤ s.seq.sampleCount → s.rq.records.length ≤ 1023
  held : s.rq.held.isSome = true ↔ s.seq.state = .halted
  discard : s.rq.policy = .discard → s.rq.held = none
  stepClaim : (∃ c, s.cv.claim = some c ∧ c.claimant = .step) ↔ s.seq.state = .running .converting
  monitorClaim : (∃ c, s.cv.claim = some c ∧ c.claimant = .monitor) ↔ s.tu.monitor = .converting
  sampleClaim : (∃ c, s.cv.claim = some c ∧ c.claimant = .sample) ↔ ∃ tag f din, s.lp.service = .sampleConverting tag f din
  monitor : s.tu.monitor ≠ .idle → s.seq.state = .armed ∧ s.seq.ctx.start = .level
  sampling : s.lp.service.sampling → s.seq.state = .stopped
  sums : ∀ c, s.cv.claim = some c → c.done < c.asked.count ∧ c.sum ≤ 16383 * c.done
  oneAtATime : s.lp.service ≠ .idle → s.lp.reply = none

/-- The pages: the live half is CHECKED or EMPTY, an EMPTY half holds zeros, a pending swap has a CHECKED standby half
and stands only in an active state, and a half under check is a standby half with no swap pending (R105, R107, R108,
R112, R113, R119). -/
structure MapSafe (s : State) : Prop where
  live : ∀ i, (s.tm.pages.get i).state (s.tm.pages.get i).live = .checked ∨
    (s.tm.pages.get i).state (s.tm.pages.get i).live = .empty ∧ (s.tm.pages.get i).live = .a
  empty : ∀ i h, (s.tm.pages.get i).state h = .empty → ∀ j, ((s.tm.pages.get i).entries h).get j = 0
  pending : ∀ i, (s.tm.pages.get i).pending = true →
    (s.tm.pages.get i).state (s.tm.pages.get i).standby = .checked ∧ s.seq.state ≠ .stopped
  job : ∀ i h, s.ck.job = some (i, h) →
    h = (s.tm.pages.get i).standby ∧ (s.tm.pages.get i).pending = false ∧ (s.tm.pages.get i).state h ≠ .empty
  checking : s.ck.job.isSome = true ↔ ∃ tag expected, s.lp.service = .commit tag expected
  entryCount : s.ck.entryCount ≤ 256

/-- What the host has set lies within its ranges, and nothing is staged in STOPPED (R19, R20, R46, R80, R82, R140). -/
structure SettingsSafe (s : State) : Prop where
  active : ∀ i, (s.fm.active.get i).valid
  staged : ∀ i p, s.fm.staged.get i = some p → p.valid
  stopped : s.seq.state = .stopped → ∀ i, s.fm.staged.get i = none
  level : 1 ≤ s.rq.level ∧ s.rq.level ≤ 1024
  interval : s.seq.ctx.passInterval = 0 ∨ 100 ≤ s.seq.ctx.passInterval.toNat
  pairing : ¬ (s.seq.ctx.stopLine = true ∧ s.seq.ctx.release = .line)
  monitorInterval : 10 ≤ s.tu.cfg.monitorInterval.toNat

/-- The check units: valid configurations; Unit A's residue, and Unit B's while it checks, lie within their width
(R125, R128, R135). -/
structure ResidueSafe (s : State) : Prop where
  configA : s.ck.a.cfg.valid
  configB : s.ck.b.cfg.valid
  residueA : s.ck.a.residue.toNat < 2 ^ s.ck.a.cfg.width
  residueB : s.ck.job.isSome = true → s.ck.b.residue.toNat < 2 ^ s.ck.b.cfg.width
  checking : s.ck.job.isSome = true → ∃ tag expected, s.lp.service = .commit tag expected

/-- Where a pass stands in a program of a length: the step index below the length, and as many records appended as steps
are done (R10, R29, R41). -/
def AcqState.placed (length index count : Nat) : AcqState → Prop
  | .stopped => True
  | .armed => True
  | .waiting => True
  | .running .spacing => index + 1 < length ∧ count = index + 1
  | .running .settling => index < length ∧ count = index
  | .running .converting => index < length ∧ count = index
  | .paused => index < length ∧ count = index
  | .halted => index < length ∧ count = index

/-- The program and the place in it: R1, R10, and the pass sample count of R18, R33. -/
structure ProgramSafe (s : State) : Prop where
  length : s.ps.length ≤ 64
  armed : s.seq.state ≠ .stopped → 1 ≤ s.ps.length
  place : s.seq.state.placed s.ps.length s.seq.stepIndex.val s.seq.sampleCount
  sampleCount : s.seq.sampleCount ≤ 64

/-- What runs in each state of the sequencer (R17, TABLE 2.1, R30, R35, R48, R50, R58). -/
structure TimersSafe (s : State) : Prop where
  watchers : (s.tu.lineWatching = true ↔ s.seq.state ≠ .stopped) ∧ (s.tu.cmpWatching = true ↔ s.seq.state ≠ .stopped)
  pacer : s.seq.pacer.isSome = true ↔
    s.seq.state ≠ .stopped ∧ s.seq.state ≠ .armed ∧ s.seq.ctx.passInterval ≠ 0
  waiting : s.seq.state = .waiting → s.seq.ctx.passInterval ≠ 0
  settle : s.seq.settle.isSome = true ↔ s.seq.state = .running .settling
  stepTimer : s.seq.state = .stopped ∨ s.seq.state = .armed ∨ s.seq.state = .paused ∨ s.seq.state = .waiting →
    s.seq.stepTimer = .idle
  pauseMark : s.seq.state = .stopped ∨ s.seq.state = .armed ∨ s.seq.state = .paused → s.seq.pauseMark = false

end Sys2Proof.Machine
end

