-- ==== Sys2Proof/Certificates/Slice0/Obligations.lean ====
section
/-! DEFINITION. The statements for the provers: one step of the block, every command's result or refusals, the shared operations of a run, the values formed, the readers of bodies, and the invariants that every step keeps. -/

section

open Sys2Proof Sys2Proof.Machine

/-! ## The step and the timebase -/

/-- A step takes the command at the front of the queue and runs it on the state with the queue's rest. -/
def Obligations.StepRunsFrontCommand : Prop :=
  ∀ (c : Instr) (rest : List Instr) (s : State),
    step { s with pending := c :: rest } = exec c { s with pending := rest }

/-- With no command waiting the part takes an event of its own that is due (the model's choice of an order, log 4): a
timer's expiry, a conversion end, a sample, an absorption or a completion, a gap too long, the rise of LRX after a low
stop bit, a break or its end, the end of a reply's byte, the release of HOLDN, or the service of the head frame (R163). A microsecond passes only when none is
due. -/
def Obligations.IdleStepTakesDueEventOrTick : Prop :=
  ∀ s : State, s.pending = [] →
    (∀ c, s.due = some c → step s = exec c s ∧ s.eventDue c) ∧
    (s.due = none → step s = .next (tick s) ∧ ∀ c, ¬ s.eventDue c)

/-- No event stops the part: every command and every step answers a next state, also where the command's event cannot
happen (the model's choice, log 1), and a command leaves the pins, what the outside will bring and the queue's rest alone
(log 5). -/
def Obligations.EveryStepAnswersNext : Prop :=
  (∀ (c : Instr) (s : State), ∃ t, exec c s = .next t ∧ t.pins = s.pins ∧ t.coming = s.coming ∧
    t.pending = s.pending) ∧
  ∀ s : State, ∃ t, step s = .next t

/-- Power-on reset takes every block to the values the sections give, the straps being read; the reset state has them.
The values the spec leaves open (log 9) are not part of the statement. -/
def Obligations.PowerOnValues : Prop :=
  (∀ s : State, ∃ t, exec .powerOnReset s = .next t ∧ AtPowerOn t ∧ t.pins = s.pins ∧ t.lp.flags = 1) ∧
  AtPowerOn State.reset

/-- One microsecond with RSTN high and nothing arriving: every timer counts, and all else stands. The pass clock counts
in a pass (R18, R31; log 8), the samples of the watcher and the comparator fall due (R48, R51; log 4), a start bit stops
the gap timer where the gap is not above 5000 microseconds (R159; log 6), LRX low is counted (R167; log 20), the byte
going out advances by the speed (R156, R165; log 6), and the time since the reset up to the longest frame's. Then: new
pin levels land first; the commands of the moment join the queue, a byte's levels on LRX as the command they spell
(log 5), but no byte and no frame that began before the reset ended, so none while RSTN is low or as it rises (R183;
log 12), a request being its whole frame and an action of CLEAR the eight bytes of the CLEAR that names it (log 3); a
command that stands for no byte brings the receiver none. With RSTN low, or as it rises, the part has its power-on values,
takes no byte and negates RDY. -/
def Obligations.OneMicrosecondOfTime : Prop :=
  (∀ s : State, s.pins.rstn = true → s.coming = [] →
    (∃ timer service,
      tick s =
        { s with
          seq := { s.seq with
            passClock := if s.seq.state.inPass then s.seq.passClock + 1 else s.seq.passClock
            settle := s.seq.settle.map (· - 1)
            stepTimer := timer
            pacer := s.seq.pacer.map (· - 1) }
          tu := { s.tu with
            lineDue := s.tu.lineWatching
            cmpDue := s.tu.cmpWatching &&
              decide (s.tu.cfg.sampling = .timebase ∨ s.seq.state = .armed ∨ s.seq.pacer = some 1)
            monitorTimer := s.tu.monitorTimer.map (· - 1) }
          cv.claim := s.cv.claim.map fun c => { c with left := c.left - 1 }
          ck.absorbDue := s.ck.job.isSome && decide (s.ck.entryCount < 256)
          lp := { s.lp with
            gap := if s.pins.lrx = false ∧ s.lp.gap.getD 0 < 5000 then none else s.lp.gap.map (· + 1)
            lowFor := if s.pins.lrx then 0 else s.lp.lowFor + 1
            sinceReset := min (s.lp.sinceReset + lineSpeed s.lp.speed) 2450000000
            service := service
            reply := s.lp.reply.map fun r =>
              if r.waiting then r else { r with clock := r.clock + lineSpeed s.lp.speed } } } ∧
      (∀ left, s.seq.stepTimer = .running left → timer = .running (left - 1)) ∧
      ((∀ left, s.seq.stepTimer ≠ .running left) → timer = s.seq.stepTimer) ∧
      (∀ tag f left, s.lp.service = .sampleSettling tag f left → service = .sampleSettling tag f (left - 1)) ∧
      ((∀ tag f left, s.lp.service ≠ .sampleSettling tag f left) → service = s.lp.service))) ∧
  (∀ (s : State) (m : Moment) (rest : List Moment), s.coming = m :: rest → s.pins.rstn = true → m.pins.rstn = true →
    let passed := tick { s with pins := m.pins, coming := [] }
    tick s = { passed with coming := rest, pending := s.pending ++ landing passed.lp.sinceReset [m] }) ∧
  (∀ (s : State) (m : Moment) (rest : List Moment), s.coming = m :: rest →
    s.pins.rstn = false ∨ m.pins.rstn = false →
    AtPowerOn (tick s) ∧ (tick s).pins = m.pins ∧ (tick s).coming = rest ∧
      (tick s).pending = s.pending ++ landing 0 [m]) ∧
  (∀ (m : Moment) (since : Nat),
    (landing since [m]).Sublist m.arrivals ∧
    ∀ c, c ∈ landing since [m] ↔ c ∈ m.arrivals ∧
      (lineBytes c = 0 ∨ .powerOnReset ∉ m.commands ∧ lineBytes c * 10000000 ≤ since)) ∧
  (∀ (kind tag : Byte) (body : List Byte), lineBytes (requestCommand kind tag body) = body.length + 5) ∧
  (∀ b : Byte, lineBytes (.byteReceived b) = 1 ∧ lineBytes (.frameComplete b) = 1 ∧ lineBytes (.lenError b) = 1 ∧
    lineBytes .framingError = 1) ∧
  (∀ (tag : Byte) (mask : BitVec 16), lineBytes (.emptyQueue tag mask) = 8 ∧ lineBytes (.eraseProgram tag mask) = 8 ∧
    lineBytes (.eraseMaps tag mask) = 8 ∧ lineBytes (.restOutputs tag mask) = 8) ∧
  (∀ (c : Instr) (s t : State), lineBytes c = 0 → exec c s = .next t →
    (t.lp.requests = s.lp.requests ∨ t.lp.requests = []) ∧ (t.lp.rx = s.lp.rx ∨ t.lp.rx = .hunt)) ∧
  (∀ m : Moment, m.line = [] → m.arrivals = m.commands) ∧
  (∀ (m : Moment) (b : Byte), m.line = byteLevels b → m.arrivals = .byteReceived b :: m.commands) ∧
  (∀ (s : State) (b : Byte), s.pins.rstn = false →
    (s.coming = [] → AtPowerOn (tick s) ∧ (tick s).pins = s.pins) ∧
      exec (.byteReceived b) s = .next s ∧ rdy s = false)

/-! ## Requests of the Link Port -/

/-- IDENTIFY: WZ, 1614, 3, 64, 1024, 16 (R171), and no state changed but the request buffer and the reply. -/
def Obligations.IdentifyReply : Prop :=
  ∀ (s : State) (tag : Byte) (rest : List Frame), s.ready ⟨0x01, tag, []⟩ rest →
    exec (.identify tag []) s =
      .next (answered rest 0x81 tag [0x57, 0x5A, 0x4E, 0x06, 0x03, 0x40, 0x00, 0x04, 0x10] s)

/-- STATUS: the twelve values of TABLE 9.7 in the layout of TABLE 10.3, as they stand; no state changed (R172). -/
def Obligations.StatusReply : Prop :=
  ∀ (s : State) (tag : Byte) (rest : List Frame), s.ready ⟨0x02, tag, []⟩ rest →
    exec (.status tag []) s =
      .next (answered rest 0x82 tag
        ([s.seq.state.byte, BitVec.ofNat 8 s.seq.stepIndex.val] ++ bytesLE 2 s.seq.passNumber.toNat ++
          bytesLE 2 s.seq.passesStarted.toNat ++ bytesLE 2 s.rq.records.length ++
          [if s.rq.held.isSome then 1 else 0] ++ bytesLE 2 s.lp.flags.toNat ++
          [s.seq.missedTicks, s.pins.din, s.dl.latch, s.seq.endCause.byte] ++ bytesLE 2 s.lp.mask.toNat) s)

/-- CLEAR (R173, R179): a mask bit above 13 or an action bit above 3 is BAD_FIELD; an action other than EMPTY_QUEUE in
an active state is BUSY and nothing is done; otherwise the named flags are cleared, the named actions are taken, and the
ACK carries the flags. (EMPTY_QUEUE with a record held goes on as in `HeldRecordIsReleased`.) -/
def Obligations.ClearTakesFlagsThenActions : Prop :=
  ∀ (s : State) (tag b0 b1 a : Byte) (rest : List Frame), s.ready ⟨0x03, tag, [b0, b1, a]⟩ rest →
    (16384 ≤ num16 b0 b1 ∨ 16 ≤ a.toNat →
      exec (.clear tag [b0, b1, a]) s = .next (declined rest 0x03 tag .badField s)) ∧
    (num16 b0 b1 < 16384 → a.toNat < 16 → s.seq.state ≠ .stopped → 2 ≤ a.toNat →
      exec (.clear tag [b0, b1, a]) s = .next (declined rest 0x03 tag .busy s)) ∧
    (num16 b0 b1 < 16384 → a.toNat < 16 → s.seq.state = .stopped ∨ a.toNat < 2 →
      s.rq.held = none ∨ a.getLsbD 0 = false →
      exec (.clear tag [b0, b1, a]) s =
        .next (answered rest 0x83 tag
          (bytesLE 2 (s.lp.flags &&& ~~~BitVec.ofNat 14 (num16 b0 b1)).toNat)
          { s with
            lp.flags := s.lp.flags &&& ~~~BitVec.ofNat 14 (num16 b0 b1)
            rq := if a.getLsbD 0 then { s.rq with records := [], lossMark := false } else s.rq
            ps := if a.getLsbD 1 then { slots := Vector.replicate 64 Entry.zero, length := 0 } else s.ps
            fm.zones := if a.getLsbD 1 then Vector.replicate 64 Zone.normal else s.fm.zones
            tm := if a.getLsbD 2 then { pages := Vector.replicate 16 Page.erased } else s.tm
            dl.latch := if a.getLsbD 3 then s.dl.rest else s.dl.latch }))

/-- Each action of CLEAR alone beside a flag mask (R153, R15, R123, R63): it is the CLEAR that names it (log 3), what it
does, and BUSY in an active state for all but EMPTY_QUEUE. -/
def Obligations.SingleActionsOfClear : Prop :=
  (∀ (s : State) (tag : Byte) (mask : BitVec 16),
    exec (.emptyQueue tag mask) s = exec (.clear tag (bytesLE 2 mask.toNat ++ [0x01])) s ∧
    exec (.eraseProgram tag mask) s = exec (.clear tag (bytesLE 2 mask.toNat ++ [0x02])) s ∧
    exec (.eraseMaps tag mask) s = exec (.clear tag (bytesLE 2 mask.toNat ++ [0x04])) s ∧
    exec (.restOutputs tag mask) s = exec (.clear tag (bytesLE 2 mask.toNat ++ [0x08])) s) ∧
  ∀ (s : State) (tag : Byte) (mask : BitVec 16) (rest : List Frame), mask.toNat < 16384 →
    let flags := s.lp.flags &&& ~~~mask.setWidth 14
    (s.ready ⟨0x03, tag, bytesLE 2 mask.toNat ++ [0x01]⟩ rest → s.rq.held = none →
      exec (.emptyQueue tag mask) s =
        .next (answered rest 0x83 tag (bytesLE 2 flags.toNat)
          { s with lp.flags := flags, rq.records := [], rq.lossMark := false })) ∧
    (s.ready ⟨0x03, tag, bytesLE 2 mask.toNat ++ [0x02]⟩ rest →
      (s.seq.state = .stopped →
        exec (.eraseProgram tag mask) s =
          .next (answered rest 0x83 tag (bytesLE 2 flags.toNat)
            { s with
              lp.flags := flags, ps := { slots := Vector.replicate 64 Entry.zero, length := 0 },
              fm.zones := Vector.replicate 64 Zone.normal })) ∧
      (s.seq.state ≠ .stopped → exec (.eraseProgram tag mask) s = .next (declined rest 0x03 tag .busy s))) ∧
    (s.ready ⟨0x03, tag, bytesLE 2 mask.toNat ++ [0x04]⟩ rest →
      (s.seq.state = .stopped →
        exec (.eraseMaps tag mask) s =
          .next (answered rest 0x83 tag (bytesLE 2 flags.toNat)
            { s with lp.flags := flags, tm := { pages := Vector.replicate 16 Page.erased } })) ∧
      (s.seq.state ≠ .stopped → exec (.eraseMaps tag mask) s = .next (declined rest 0x03 tag .busy s))) ∧
    (s.ready ⟨0x03, tag, bytesLE 2 mask.toNat ++ [0x08]⟩ rest →
      (s.seq.state = .stopped →
        exec (.restOutputs tag mask) s =
          .next (answered rest 0x83 tag (bytesLE 2 flags.toNat)
            { s with lp.flags := flags, dl.latch := s.dl.rest })) ∧
      (s.seq.state ≠ .stopped → exec (.restOutputs tag mask) s = .next (declined rest 0x03 tag .busy s)))

/-- ATTENTION SET replaces the mask in every state, its ACK carries it, no flag changes (R174), and ATTN is asserted
exactly when some flag is set and enabled (R170). A bit above 13 is BAD_FIELD (R179). -/
def Obligations.AttentionSetReplacesMask : Prop :=
  (∀ (s : State) (tag b0 b1 : Byte) (rest : List Frame), s.ready ⟨0x04, tag, [b0, b1]⟩ rest →
    (num16 b0 b1 < 16384 →
      exec (.attentionSet tag [b0, b1]) s =
        .next (answered rest 0x84 tag [b0, b1] { s with lp.mask := BitVec.ofNat 14 (num16 b0 b1) })) ∧
    (16384 ≤ num16 b0 b1 →
      exec (.attentionSet tag [b0, b1]) s = .next (declined rest 0x04 tag .badField s))) ∧
  ∀ s : State, attn s = true ↔ ∃ f : Flag, s.flag f = true ∧ s.lp.mask.getLsbD f.position = true

/-- RESET is acknowledged with nothing else changed (R175); the reset takes effect when that reply has been sent in
full: each block takes the values its section gives for RESET, a run being stopped with cause RESET (R44, R64, R78,
R104, R137, R155). The pass clock's idle value stands (log 16). Where a break discards that reply, at once while it waits
on HOLDN, or after the byte in progress, the reset takes effect at the discard, and LINK_BREAK alone stands after it
(R168; in the last byte by log 13). -/
def Obligations.ResetTakesEffectAfterItsReply : Prop :=
  (∀ (s : State) (tag : Byte) (rest : List Frame), s.ready ⟨0x05, tag, []⟩ rest →
    exec (.reset tag []) s = .next (answered rest 0x85 tag [] s)) ∧
  ∀ (s : State) (r : Transmission), s.lp.reply = some r → r.reply.kind = 0x85 →
    (r.waiting = false → r.sent + 1 = r.reply.size → r.cut = false →
      ∃ t, exec .replySent s = .next t ∧ ResetDone s t ∧ t.lp = { s.lp with reply := none, flags := 0 }) ∧
    (r.waiting = false → r.sent + 1 < r.reply.size → r.cut = true →
      ∃ t, exec .replyByteSent s = .next t ∧ ResetDone s t ∧
        t.lp = { s.lp with reply := none, flags := Flag.linkBreak.bit }) ∧
    (r.waiting = false → r.sent + 1 = r.reply.size → r.cut = true →
      ∃ t, exec .replySent s = .next t ∧ ResetDone s t ∧
        t.lp = { s.lp with reply := none, flags := Flag.linkBreak.bit }) ∧
    (r.waiting = true → s.lp.inBreak = false → s.pins.lrx = false → breakTime s.lp.speed ≤ s.lp.lowFor →
      ∃ t, exec .linkBreak s = .next t ∧ ResetDone s t ∧
        t.lp = { s.lp with rx := .hunt, gap := none, inBreak := true, badStop := false, requests := [],
                           abandoned := decide (s.lp.service ≠ .idle), reply := none, flags := Flag.linkBreak.bit })

/-! ## How requests are judged -/

/-- A frame whose kind is not in TABLE 10.1 is refused with UNKNOWN_KIND at its service (R163). A request command whose
service may not begin is the arrival of its frame (the model's reading of a command, log 2): nothing where the line
brings none, the end of a partial frame whose gap is too long (R159) and then the same, LINK_ERROR where the buffer is
full (R161), service at once at a free port with an empty buffer (R163), else it joins the buffer (R161). -/
def Obligations.RequestsAreServedByKind : Prop :=
  (∀ (s : State) (kind tag : Byte) (body : List Byte) (rest : List Frame),
    kind ∉ fixedLengths.map (·.1) ++ countedLengths.map (·.1) →
    requestCommand kind tag body = .unknownKind kind tag body ∧
    (s.ready ⟨kind, tag, body⟩ rest →
      exec (.unknownKind kind tag body) s = .next (declined rest kind tag .unknownKind s))) ∧
  ∀ (s : State) (kind tag : Byte) (body : List Byte), (∀ rest, ¬ s.ready ⟨kind, tag, body⟩ rest) →
    exec (requestCommand kind tag body) s =
      if s.lp.inBreak = true ∨ s.lp.badStop = true ∨ s.pins.rstn = false ∨ 240 < body.length then .next s
      else if 5000 < s.lp.gap.getD 0 then
        exec (requestCommand kind tag body)
          { s with lp.rx := .hunt, lp.gap := none, lp.flags := s.lp.flags ||| Flag.linkError.bit }
      else if s.lp.rx ≠ .hunt then .next s
      else if 4 ≤ s.lp.requests.length then .next { s with lp.flags := s.lp.flags ||| Flag.linkError.bit }
      else if s.lp.service = .idle ∧ s.lp.reply = none ∧ s.lp.requests = [] then
        exec (requestCommand kind tag body) { s with lp.requests := [⟨kind, tag, body⟩] }
      else .next { s with lp.requests := s.lp.requests ++ [⟨kind, tag, body⟩] }

/-- A request whose LEN is not the one TABLE 10.1 gives its kind, or not the one its count gives, is refused with
BAD_LENGTH before anything else (R178). -/
def Obligations.BadLengthIsRefused : Prop :=
  ∀ (s : State) (kind tag : Byte) (body : List Byte) (rest : List Frame), s.ready ⟨kind, tag, body⟩ rest →
    (∀ n, (kind, n) ∈ fixedLengths → body.length ≠ n →
      exec (requestCommand kind tag body) s = .next (declined rest kind tag .badLength s)) ∧
    (∀ place size, (kind, place, size) ∈ countedLengths →
      (body.length ≤ place →
        exec (requestCommand kind tag body) s = .next (declined rest kind tag .badLength s)) ∧
      (∀ count, body[place]? = some count → body.length ≠ place + 1 + size * count.toNat →
        exec (requestCommand kind tag body) s = .next (declined rest kind tag .badLength s)))

/-! ## The Program Store -/

/-- PROGRAM LOAD: the checks of TABLE 1.4 in order (R11), else the entries are written in order, their zones are NORMAL,
the length is extended, and the ACK carries it (R12). -/
def Obligations.ProgramLoadWritesSlots : Prop :=
  ∀ (s : State) (tag start n : Byte) (bytes : List Byte) (rest : List Frame),
    s.ready ⟨0x10, tag, start :: n :: bytes⟩ rest → bytes.length = 9 * n.toNat →
    (s.seq.state ≠ .stopped →
      exec (.programLoad tag (start :: n :: bytes)) s = .next (declined rest 0x10 tag .busy s)) ∧
    (s.seq.state = .stopped →
      (n.toNat = 0 ∨ 8 < n.toNat →
        exec (.programLoad tag (start :: n :: bytes)) s = .next (declined rest 0x10 tag .badField s)) ∧
      (1 ≤ n.toNat → n.toNat ≤ 8 →
        (s.ps.length < start.toNat →
          exec (.programLoad tag (start :: n :: bytes)) s = .next (declined rest 0x10 tag .gap s)) ∧
        (start.toNat ≤ s.ps.length → 64 < start.toNat + n.toNat →
          exec (.programLoad tag (start :: n :: bytes)) s = .next (declined rest 0x10 tag .range s)) ∧
        (start.toNat ≤ s.ps.length → start.toNat + n.toNat ≤ 64 →
          (entries? n.toNat bytes = none →
            exec (.programLoad tag (start :: n :: bytes)) s = .next (declined rest 0x10 tag .badField s)) ∧
          ∀ entries, entries? n.toNat bytes = some entries →
            ∃ slots zones,
              exec (.programLoad tag (start :: n :: bytes)) s =
                .next (answered rest 0x90 tag [BitVec.ofNat 8 (max s.ps.length (start.toNat + n.toNat))]
                  { s with ps := { slots, length := max s.ps.length (start.toNat + n.toNat) }, fm.zones := zones }) ∧
              ∀ i : Fin 64,
                (start.toNat ≤ i.val ∧ i.val < start.toNat + n.toNat →
                  entries[i.val - start.toNat]? = some (slots.get i) ∧ zones.get i = .normal) ∧
                (i.val < start.toNat ∨ start.toNat + n.toNat ≤ i.val →
                  slots.get i = s.ps.slots.get i ∧ zones.get i = s.fm.zones.get i))))

/-- PROGRAM TRIM: BUSY in an active state, RANGE above the length, else the length is set and slots and zones keep their
contents (R13). -/
def Obligations.ProgramTrimSetsLength : Prop :=
  ∀ (s : State) (tag k : Byte) (rest : List Frame), s.ready ⟨0x11, tag, [k]⟩ rest →
    (s.seq.state ≠ .stopped → exec (.programTrim tag [k]) s = .next (declined rest 0x11 tag .busy s)) ∧
    (s.seq.state = .stopped →
      (s.ps.length < k.toNat → exec (.programTrim tag [k]) s = .next (declined rest 0x11 tag .range s)) ∧
      (k.toNat ≤ s.ps.length →
        exec (.programTrim tag [k]) s = .next (answered rest 0x91 tag [k] { s with ps.length := k.toNat })))

/-- PROGRAM READ (R14), PROFILE READ (R84) and MAP READ (R122): served in every state, they change nothing, refuse what
lies out of range, and return what is stored. -/
def Obligations.ReadsReturnWhatIsStored : Prop :=
  (∀ (s : State) (tag start count : Byte) (rest : List Frame), s.ready ⟨0x12, tag, [start, count]⟩ rest →
    (count.toNat = 0 ∨ 8 < count.toNat →
      exec (.programRead tag [start, count]) s = .next (declined rest 0x12 tag .badField s)) ∧
    (1 ≤ count.toNat → count.toNat ≤ 8 →
      (s.ps.length < start.toNat + count.toNat →
        exec (.programRead tag [start, count]) s = .next (declined rest 0x12 tag .range s)) ∧
      (start.toNat + count.toNat ≤ s.ps.length →
        exec (.programRead tag [start, count]) s =
          .next (answered rest 0x92 tag
            ([BitVec.ofNat 8 s.ps.length, start, count] ++
              ((s.ps.slots.toList.drop start.toNat).take count.toNat).flatMap Entry.bytes) s)))) ∧
  (∀ (s : State) (tag number : Byte) (rest : List Frame), s.ready ⟨0x31, tag, [number]⟩ rest →
    (16 ≤ number.toNat → exec (.profileRead tag [number]) s = .next (declined rest 0x31 tag .badField s)) ∧
    (∀ i : Fin 16, number.toNat = i.val →
      exec (.profileRead tag [number]) s =
        .next (answered rest 0xB1 tag
          ([number] ++ (s.fm.active.get i).bytes ++
            (match s.fm.staged.get i with | some p => 0x01 :: p.bytes | none => [0x00])) s))) ∧
  ∀ (s : State) (tag page half start count : Byte) (rest : List Frame),
    s.ready ⟨0x3B, tag, [page, half, start, count]⟩ rest →
    (16 ≤ page.toNat ∨ 2 ≤ half.toNat ∨ count.toNat = 0 ∨ 64 < count.toNat →
      exec (.mapRead tag [page, half, start, count]) s = .next (declined rest 0x3B tag .badField s)) ∧
    (∀ (i : Fin 16) (h : Half), page.toNat = i.val → half = h.byte → 1 ≤ count.toNat → count.toNat ≤ 64 →
      (256 < start.toNat + count.toNat →
        exec (.mapRead tag [page, half, start, count]) s = .next (declined rest 0x3B tag .range s)) ∧
      (start.toNat + count.toNat ≤ 256 →
        exec (.mapRead tag [page, half, start, count]) s =
          .next (answered rest 0xBB tag
            ([page, (s.tm.pages.get i).live.byte, (s.tm.pages.get i).stateA.byte, (s.tm.pages.get i).stateB.byte,
              if (s.tm.pages.get i).pending then 1 else 0] ++ bytesLE 4 (s.tm.pages.get i).lastResidue.toNat ++
              [half, start, count] ++
              wordBytes ((((s.tm.pages.get i).entries h).toList.drop start.toNat).take count.toNat)) s)))

/-! ## Triggers, outputs, runs -/

/-- TRIGGER SET: BUSY in an active state, else BAD_FIELD for a field out of range, else the ten fields are replaced
(R47). -/
def Obligations.TriggerSetReplacesConfiguration : Prop :=
  ∀ (s : State) (tag : Byte) (body : List Byte) (rest : List Frame), s.ready ⟨0x18, tag, body⟩ rest →
    body.length = 12 →
    (s.seq.state ≠ .stopped → exec (.triggerSet tag body) s = .next (declined rest 0x18 tag .busy s)) ∧
    (s.seq.state = .stopped →
      (trigger? body = none → exec (.triggerSet tag body) s = .next (declined rest 0x18 tag .badField s)) ∧
      ∀ cfg, trigger? body = some cfg →
        exec (.triggerSet tag body) s = .next (answered rest 0x98 tag [] { s with tu.cfg := cfg }))

/-- OUTPUT SET: apply-now no stores the rest pattern in every state; apply-now yes is BUSY in an active state, and in
STOPPED stores the rest pattern and writes the value; the ACK carries latch and rest (R62). Another apply-now code is
BAD_FIELD (R179). -/
def Obligations.OutputSetStoresRestAndValue : Prop :=
  ∀ (s : State) (tag apply value pattern : Byte) (rest : List Frame),
    s.ready ⟨0x19, tag, [apply, value, pattern]⟩ rest →
    (2 ≤ apply.toNat →
      exec (.outputSet tag [apply, value, pattern]) s = .next (declined rest 0x19 tag .badField s)) ∧
    (apply = 0 →
      exec (.outputSet tag [apply, value, pattern]) s =
        .next (answered rest 0x99 tag [s.dl.latch, pattern] { s with dl.rest := pattern })) ∧
    (apply = 1 → s.seq.state ≠ .stopped →
      exec (.outputSet tag [apply, value, pattern]) s = .next (declined rest 0x19 tag .busy s)) ∧
    (apply = 1 → s.seq.state = .stopped →
      exec (.outputSet tag [apply, value, pattern]) s =
        .next (answered rest 0x99 tag [value, pattern] { s with dl := { latch := value, rest := pattern } }))

/-- ARM: the checks of TABLE 2.4 in order, a refused ARM changing nothing (R20); else the run context, the runtime
values, the zones, the queue's policy and level, the references of the watchers; ARMED, the level monitor timing for
LEVEL, the first pass begun for NOW (R21). -/
def Obligations.ArmPreparesTheRun : Prop :=
  ∀ (s : State) (tag : Byte) (body : List Byte) (rest : List Frame), s.ready ⟨0x20, tag, body⟩ rest →
    body.length = 13 →
    (s.seq.state ≠ .stopped → exec (.arm tag body) s = .next (declined rest 0x20 tag .busy s)) ∧
    (s.seq.state = .stopped → s.ps.length = 0 →
      exec (.arm tag body) s = .next (declined rest 0x20 tag .noProgram s)) ∧
    (s.seq.state = .stopped → s.ps.length ≠ 0 → arm? body = none →
      exec (.arm tag body) s = .next (declined rest 0x20 tag .badField s)) ∧
    ∀ f, s.seq.state = .stopped → s.ps.length ≠ 0 → arm? body = some f →
      let armed : State :=
        { s with
          seq := { s.seq with state := .armed, ctx := f.ctx, passNumber := 0, passesStarted := 0, missedTicks := 0,
                              stepIndex := 0, sampleCount := 0, pauseMark := false, endCause := .none }
          fm.zones := Vector.replicate 64 Zone.normal
          rq := { s.rq with policy := f.policy, level := f.level }
          tu := { s.tu with lineWatching := true, lineLevel := s.pins.trig, lineDue := false, cmpWatching := true,
                            prevMasked := s.pins.din &&& s.tu.cfg.mask, prevMatch := false, cmpDue := false,
                            monitor := .idle, monitorTimer := none, seenFalse := false } }
      (f.ctx.start = .line ∨ f.ctx.start = .pattern →
        exec (.arm tag body) s = .next (answered rest 0xA0 tag [1] armed)) ∧
      (f.ctx.start = .level →
        exec (.arm tag body) s =
          .next (answered rest 0xA0 tag [1]
            { armed with tu.monitor := .timing, tu.monitorTimer := some s.tu.cfg.monitorInterval.toNat })) ∧
      (f.ctx.start = .now →
        exec (.arm tag body) s =
          .next (answered rest 0xA0 tag [if (s.ps.slots.get 0).pause then 3 else 2] (startTrigger armed)))

/-- STOP: in STOPPED nothing changes; in ARMED the run ends with no marker; in a pass or between passes it is stopped,
with an ABORTED marker where the pass has records; the ACK carries the end cause (R37, R40, R41, R42). -/
def Obligations.StopEndsTheRun : Prop :=
  ∀ (s : State) (tag : Byte) (rest : List Frame), s.ready ⟨0x21, tag, []⟩ rest →
    (s.seq.state = .stopped →
      exec (.stop tag []) s = .next (answered rest 0xA1 tag [s.seq.endCause.byte] s)) ∧
    (s.seq.state = .armed → s.rq.held = none →
      ∃ t, exec (.stop tag []) s = .next (answered rest 0xA1 tag [2] t) ∧ RunEnded .request s t) ∧
    (s.seq.state ≠ .stopped → s.seq.state ≠ .armed →
      ∃ t, exec (.stop tag []) s = .next (answered rest 0xA1 tag [2] t) ∧ RunStopped .request s t)

/-- RESUME: NOT_PAUSED outside PAUSED, then BAD_FIELD with pause release LINE, else the paused step proceeds: its pattern
is written and its timers start (R25, R26, R24). -/
def Obligations.ResumeReleasesThePause : Prop :=
  ∀ (s : State) (tag : Byte) (rest : List Frame), s.ready ⟨0x22, tag, []⟩ rest →
    (s.seq.state ≠ .paused → exec (.resume tag []) s = .next (declined rest 0x22 tag .notPaused s)) ∧
    (s.seq.state = .paused → s.seq.ctx.release = .line →
      exec (.resume tag []) s = .next (declined rest 0x22 tag .badField s)) ∧
    (s.seq.state = .paused → s.seq.ctx.release = .request →
      let e := s.ps.slots.get s.seq.stepIndex
      exec (.resume tag []) s =
        .next (answered rest 0xA2 tag [2, BitVec.ofNat 8 s.seq.stepIndex.val]
          { s with
            dl.latch := e.pattern.getD s.dl.latch
            seq := { s.seq with
              state := .running .settling, pauseMark := true
              stepTimer := if s.seq.ctx.stepInterval = 0 then .expired else .running s.seq.ctx.stepInterval.toNat
              settle := some (if e.source = .digital ∧ e.settle = 0 then 1 else e.settle.toNat) } }))

/-! ## SAMPLE, profiles, substitutes -/

/-- SAMPLE: BUSY in an active state, else BAD_FIELD, else its settle timer starts; at its expiry DIN is read and the
Converter claimed (R74, R75, R66). -/
def Obligations.SampleSettlesAndClaims : Prop :=
  (∀ (s : State) (tag : Byte) (body : List Byte) (rest : List Frame), s.ready ⟨0x28, tag, body⟩ rest →
    body.length = 6 →
    (s.seq.state ≠ .stopped → exec (.sample tag body) s = .next (declined rest 0x28 tag .busy s)) ∧
    (s.seq.state = .stopped → sample? body = none →
      exec (.sample tag body) s = .next (declined rest 0x28 tag .badField s)) ∧
    (∀ f, s.seq.state = .stopped → sample? body = some f →
      exec (.sample tag body) s =
        .next { s with lp.requests := rest, lp.service := .sampleSettling tag f f.settle.toNat })) ∧
  ∀ (s : State) (tag : Byte) (f : SampleFields), s.lp.service = .sampleSettling tag f 0 →
    exec .sampleSettleExpiry s =
      .next
        { s with
          cv := { mux := f.channel,
                  claim := some { claimant := .sample, channel := f.channel, range := f.range, asked := f.averaging,
                                  done := 0, sum := 0, overrange := false, input := s.pins.ain.get f.channel,
                                  left := 5 } }
          lp.service := .sampleConverting tag f s.pins.din }

/-- The last conversion of a SAMPLE: the mean is formed by the active profile, HIGH and LOW without zone or hysteresis,
and the ACK of TABLE 10.7 takes the reply buffer, or is discarded after a break (R71, R76, R77, R168). -/
def Obligations.SampleCompletesWithItsReply : Prop :=
  ∀ (s : State) (tag din : Byte) (f : SampleFields) (c : Claim), s.lp.service = .sampleConverting tag f din →
    s.cv.claim = some c → c.claimant = .sample → c.left = 0 → c.done + 1 = c.asked.count →
    let raw := (c.sum + (convert c.range c.input).1) / c.asked.count
    let p := s.fm.active.get f.profile
    let j : Judgement :=
      { high := p.limits && decide (p.high.toNat < raw), low := p.limits && decide (raw < p.low.toNat),
        ovr := c.overrange || (convert c.range c.input).2, din }
    let v := p.formed s.fm.subst s.tm f.channel raw j
    exec .conversionEnd s =
      .next
        { s with
          cv.claim := none
          lp := { s.lp with
            service := .idle, abandoned := false
            reply :=
              if s.lp.abandoned then s.lp.reply
              else some { reply := { kind := 0xA8, tag := tag,
                                     body := bytesLE 2 raw ++ bytesLE 2 v.value.toNat ++ [(v.flags j).byte, din] },
                          sent := 0, clock := 0, waiting := !s.pins.holdn, cut := false } } }

/-- PROFILE SET: BAD_FIELD for a number above 15 or an invalid record; in STOPPED the record is active at once, in an
active state it is staged (R81, R82). -/
def Obligations.ProfileSetActivatesOrStages : Prop :=
  ∀ (s : State) (tag number : Byte) (bytes : List Byte) (rest : List Frame),
    s.ready ⟨0x30, tag, number :: bytes⟩ rest → bytes.length = 16 →
    (16 ≤ number.toNat ∨ profile? bytes = none →
      exec (.profileSet tag (number :: bytes)) s = .next (declined rest 0x30 tag .badField s)) ∧
    (∀ (i : Fin 16) (p : Profile), number.toNat = i.val → profile? bytes = some p →
      (s.seq.state = .stopped →
        exec (.profileSet tag (number :: bytes)) s =
          .next (answered rest 0xB0 tag [number, 0] { s with fm.active := s.fm.active.set i.val p i.isLt })) ∧
      (s.seq.state ≠ .stopped →
        exec (.profileSet tag (number :: bytes)) s =
          .next (answered rest 0xB0 tag [number, 1] { s with fm.staged := s.fm.staged.set i.val (some p) i.isLt })))

/-- SUBSTITUTE SET: BUSY, BAD_FIELD, RANGE in order; else the values are written in order and the ACK carries the whole
table (R85). -/
def Obligations.SubstituteSetWritesTheTable : Prop :=
  ∀ (s : State) (tag start n : Byte) (bytes : List Byte) (rest : List Frame),
    s.ready ⟨0x32, tag, start :: n :: bytes⟩ rest → bytes.length = 2 * n.toNat →
    (s.seq.state ≠ .stopped →
      exec (.substituteSet tag (start :: n :: bytes)) s = .next (declined rest 0x32 tag .busy s)) ∧
    (s.seq.state = .stopped → n.toNat = 0 ∨ 16 < n.toNat →
      exec (.substituteSet tag (start :: n :: bytes)) s = .next (declined rest 0x32 tag .badField s)) ∧
    (s.seq.state = .stopped → 1 ≤ n.toNat → n.toNat ≤ 16 → 16 < start.toNat + n.toNat →
      exec (.substituteSet tag (start :: n :: bytes)) s = .next (declined rest 0x32 tag .range s)) ∧
    (s.seq.state = .stopped → 1 ≤ n.toNat → start.toNat + n.toNat ≤ 16 →
      ∃ table,
        exec (.substituteSet tag (start :: n :: bytes)) s =
          .next (answered rest 0xB2 tag (wordBytes table.toList) { s with fm.subst := table }) ∧
        ∀ i : Fin 16,
          (start.toNat ≤ i.val ∧ i.val < start.toNat + n.toNat →
            ∀ b0 b1, bytes[2 * (i.val - start.toNat)]? = some b0 → bytes[2 * (i.val - start.toNat) + 1]? = some b1 →
              (table.get i).toNat = num16 b0 b1) ∧
          (i.val < start.toNat ∨ start.toNat + n.toNat ≤ i.val → table.get i = s.fm.subst.get i))

/-! ## Maps and check units -/

/-- MAP LOAD: BAD_FIELD, SWAP_PENDING, RANGE in order (TABLE 6.3); else the values are written into the standby half,
which is LOADING, and nothing else of the page changes (R109, R110). -/
def Obligations.MapLoadWritesTheStandbyHalf : Prop :=
  ∀ (s : State) (tag page start n : Byte) (bytes : List Byte) (rest : List Frame),
    s.ready ⟨0x38, tag, page :: start :: n :: bytes⟩ rest → bytes.length = 2 * n.toNat →
    (16 ≤ page.toNat ∨ n.toNat = 0 ∨ 32 < n.toNat →
      exec (.mapLoad tag (page :: start :: n :: bytes)) s = .next (declined rest 0x38 tag .badField s)) ∧
    ∀ i : Fin 16, page.toNat = i.val → 1 ≤ n.toNat → n.toNat ≤ 32 →
      let pg := s.tm.pages.get i
      (pg.pending = true →
        exec (.mapLoad tag (page :: start :: n :: bytes)) s = .next (declined rest 0x38 tag .swapPending s)) ∧
      (pg.pending = false → 256 < start.toNat + n.toNat →
        exec (.mapLoad tag (page :: start :: n :: bytes)) s = .next (declined rest 0x38 tag .range s)) ∧
      (pg.pending = false → start.toNat + n.toNat ≤ 256 →
        ∃ table : Vector Word16 256,
          exec (.mapLoad tag (page :: start :: n :: bytes)) s =
            .next (answered rest 0xB8 tag [page, pg.standby.byte, 1]
              { s with
                tm.pages := s.tm.pages.set i.val
                  (match pg.live with
                    | .a => { pg with entriesB := table, stateB := .loading }
                    | .b => { pg with entriesA := table, stateA := .loading }) i.isLt }) ∧
          ∀ k : Fin 256,
            (start.toNat ≤ k.val ∧ k.val < start.toNat + n.toNat →
              ∀ b0 b1, bytes[2 * (k.val - start.toNat)]? = some b0 →
                bytes[2 * (k.val - start.toNat) + 1]? = some b1 → (table.get k).toNat = num16 b0 b1) ∧
            (k.val < start.toNat ∨ start.toNat + n.toNat ≤ k.val → table.get k = (pg.entries pg.standby).get k))

/-- MAP COMMIT: BAD_FIELD, SWAP_PENDING, EMPTY_HALF in order; else Unit B is loaded and checks the standby half, and the
reply waits for the completion (R112, R113, R135). -/
def Obligations.MapCommitBeginsTheCheck : Prop :=
  ∀ (s : State) (tag page b1 b2 b3 b4 : Byte) (rest : List Frame), s.ready ⟨0x39, tag, [page, b1, b2, b3, b4]⟩ rest →
    (16 ≤ page.toNat →
      exec (.mapCommit tag [page, b1, b2, b3, b4]) s = .next (declined rest 0x39 tag .badField s)) ∧
    ∀ i : Fin 16, page.toNat = i.val →
      let pg := s.tm.pages.get i
      (pg.pending = true →
        exec (.mapCommit tag [page, b1, b2, b3, b4]) s = .next (declined rest 0x39 tag .swapPending s)) ∧
      (pg.pending = false → pg.state pg.standby = .empty →
        exec (.mapCommit tag [page, b1, b2, b3, b4]) s = .next (declined rest 0x39 tag .emptyHalf s)) ∧
      (pg.pending = false → pg.state pg.standby ≠ .empty →
        exec (.mapCommit tag [page, b1, b2, b3, b4]) s =
          .next { s with
            ck := { s.ck with b.residue := s.ck.b.cfg.initialResidue, job := some (i, pg.standby), entryCount := 0,
                              absorbDue := false }
            lp.requests := rest
            lp.service := .commit tag (BitVec.ofNat 32 (num32 b1 b2 b3 b4)) })

/-- Unit B absorbs the entry at its count, one by one (R135); after the 256th the half is CHECKED or FAILED by the
comparison over all 32 bits, the last residue is the value reached, MAP_CHECK is set and the ACK carries the outcome, or
is discarded after a break (R114, R168). That the completion is a step after the 256th absorption is the model's reading
(log 21). -/
def Obligations.MapCheckAbsorbsAndJudges : Prop :=
  (∀ (s : State) (i : Fin 16) (h : Half) (n : Fin 256), s.ck.job = some (i, h) → s.ck.entryCount = n.val →
    s.ck.absorbDue = true →
    exec .unitBAbsorb s =
      .next { s with
        ck := { s.ck with
          b.residue := absorbWord s.ck.b.cfg s.ck.b.residue (((s.tm.pages.get i).entries h).get n)
          entryCount := n.val + 1, absorbDue := false } }) ∧
  ∀ (s : State) (i : Fin 16) (h : Half) (tag : Byte) (expected : BitVec 32), s.ck.job = some (i, h) →
    s.lp.service = .commit tag expected → s.ck.entryCount = 256 →
    let pg := s.tm.pages.get i
    let outcome : HalfState := if s.ck.b.final = expected then .checked else .failed
    exec .mapCommitCompletion s =
      .next { s with
        tm.pages := s.tm.pages.set i.val
          (match h with
            | .a => { pg with stateA := outcome, lastResidue := s.ck.b.final }
            | .b => { pg with stateB := outcome, lastResidue := s.ck.b.final }) i.isLt
        ck.job := none
        lp := { s.lp with
          flags := s.lp.flags ||| Flag.mapCheck.bit
          service := .idle, abandoned := false
          reply :=
            if s.lp.abandoned then s.lp.reply
            else some { reply := { kind := 0xB9, tag := tag,
                                   body := [BitVec.ofNat 8 i.val, h.byte] ++ bytesLE 4 s.ck.b.final.toNat ++
                                     [if s.ck.b.final = expected then 2 else 3] },
                        sent := 0, clock := 0, waiting := !s.pins.holdn, cut := false } } }

/-- MAP SWAP: BAD_FIELD, SWAP_PENDING, NOT_CHECKED in order; a flip at once in STOPPED, swap pending in an active state;
the contents and the states of the halves stay (R117, R118, R119). -/
def Obligations.MapSwapFlipsOrWaits : Prop :=
  ∀ (s : State) (tag page : Byte) (rest : List Frame), s.ready ⟨0x3A, tag, [page]⟩ rest →
    (16 ≤ page.toNat → exec (.mapSwap tag [page]) s = .next (declined rest 0x3A tag .badField s)) ∧
    ∀ i : Fin 16, page.toNat = i.val →
      let pg := s.tm.pages.get i
      (pg.pending = true → exec (.mapSwap tag [page]) s = .next (declined rest 0x3A tag .swapPending s)) ∧
      (pg.pending = false → pg.state pg.standby ≠ .checked →
        exec (.mapSwap tag [page]) s = .next (declined rest 0x3A tag .notChecked s)) ∧
      (pg.pending = false → pg.state pg.standby = .checked → s.seq.state = .stopped →
        exec (.mapSwap tag [page]) s =
          .next (answered rest 0xBA tag [page, 0, pg.standby.byte]
            { s with tm.pages := s.tm.pages.set i.val { pg with live := pg.standby, lastResidue := 0 } i.isLt })) ∧
      (pg.pending = false → pg.state pg.standby = .checked → s.seq.state ≠ .stopped →
        exec (.mapSwap tag [page]) s =
          .next (answered rest 0xBA tag [page, 1, pg.live.byte]
            { s with tm.pages := s.tm.pages.set i.val { pg with pending := true } i.isLt }))

/-- CHECK SET: the checks of TABLE 7.3 in order; else the configuration is stored, Unit A's residue is loaded, Unit B
keeps its own, and the ACK carries the configuration as stored (R129). -/
def Obligations.CheckSetStoresTheConfiguration : Prop :=
  ∀ (s : State) (tag unit : Byte) (bytes : List Byte) (rest : List Frame), s.ready ⟨0x40, tag, unit :: bytes⟩ rest →
    bytes.length = 8 →
    (2 ≤ unit.toNat →
      exec (.checkSet tag (unit :: bytes)) s = .next (declined rest 0x40 tag .badField s)) ∧
    (unit = 0 → s.seq.state ≠ .stopped →
      exec (.checkSet tag (unit :: bytes)) s = .next (declined rest 0x40 tag .busy s)) ∧
    (unit = 0 ∧ s.seq.state = .stopped ∨ unit = 1 → checkConfig? bytes = none →
      exec (.checkSet tag (unit :: bytes)) s = .next (declined rest 0x40 tag .badField s)) ∧
    ∀ cfg, checkConfig? bytes = some cfg →
      (unit = 0 → s.seq.state = .stopped →
        exec (.checkSet tag (unit :: bytes)) s =
          .next (answered rest 0xC0 tag (unit :: bytes)
            { s with
              ck.a := { cfg, residue := if cfg.initial = .ones then BitVec.ofNat 32 (2 ^ cfg.width - 1) else 0 } })) ∧
      (unit = 1 →
        exec (.checkSet tag (unit :: bytes)) s =
          .next (answered rest 0xC0 tag (unit :: bytes) { s with ck.b.cfg := cfg }))

/-! ## The Result Queue -/

/-- DRAIN: BAD_FIELD for a maximum of 0 or above 16; else the oldest records leave the queue in order, the first with
LOSS where the loss mark stood, which it then clears; the ACK carries their number and the count after the removal
(R150, R147). (A held record is then released as in `HeldRecordIsReleased`.) A sample record (R181) and a pass marker
(R182) are laid out as TABLES 10.11 to 10.13 give, numbers with the least byte first (0.7.3). -/
def Obligations.DrainRemovesTheOldestRecords : Prop :=
  (∀ (s : State) (tag n : Byte) (rest : List Frame), s.ready ⟨0x48, tag, [n]⟩ rest →
    (n.toNat = 0 ∨ 16 < n.toNat → exec (.drain tag [n]) s = .next (declined rest 0x48 tag .badField s)) ∧
    (1 ≤ n.toNat → n.toNat ≤ 16 → s.rq.held = none →
      (s.rq.records = [] → exec (.drain tag [n]) s = .next (answered rest 0xC8 tag [0, 0, 0] s)) ∧
      ∀ first others, s.rq.records.take n.toNat = first :: others →
        exec (.drain tag [n]) s =
          .next (answered rest 0xC8 tag
            ([BitVec.ofNat 8 (others.length + 1)] ++ bytesLE 2 (s.rq.records.length - (others.length + 1)) ++
              (if s.rq.lossMark then first.withLoss else first).bytes ++ others.flatMap Record.bytes)
            { s with rq.records := s.rq.records.drop n.toNat, rq.lossMark := false }))) ∧
  (∀ r : SampleRecord, ∃ presence flags : Byte,
    (Record.sample r).bytes =
      [0x01, BitVec.ofNat 8 r.step.val, presence] ++ bytesLE 2 r.value.toNat ++ [flags] ++
        (match r.raw with | some c => bytesLE 2 c.toNat | none => []) ++
        (match r.digital with | some b => [b] | none => []) ++
        (match r.stamp with | some c => bytesLE 3 c.toNat | none => []) ∧
    presence.toNat % 32 = (match r.source with | .analog channel => channel.val | .digital => 16) ∧
    presence.getLsbD 5 = r.raw.isSome ∧ presence.getLsbD 6 = r.digital.isSome ∧ presence.getLsbD 7 = r.stamp.isSome ∧
    flags.getLsbD 0 = r.flags.ovr ∧ flags.getLsbD 1 = r.flags.high ∧ flags.getLsbD 2 = r.flags.low ∧
    flags.getLsbD 3 = r.flags.overridden ∧ flags.getLsbD 4 = r.flags.floor ∧ flags.getLsbD 5 = r.flags.unmapped ∧
    flags.getLsbD 6 = r.flags.loss ∧ flags.getLsbD 7 = false ∧
    (Record.sample r).bytes.length =
      6 + (if r.raw.isSome then 2 else 0) + (if r.digital.isSome then 1 else 0) + (if r.stamp.isSome then 3 else 0) ∧
    (Record.sample r).withLoss = .sample { r with flags := { r.flags with loss := true } }) ∧
  (∀ m : PassMarker,
    (Record.marker m).bytes =
      [0x02, BitVec.ofNat 8 ((if m.status = .aborted then 1 else 0) + if m.loss then 64 else 0)] ++
        bytesLE 2 m.passNumber.toNat ++ [BitVec.ofNat 8 m.sampleCount, m.missedTicks] ++ bytesLE 4 m.residue.toNat ∧
    (Record.marker m).bytes.length = 10 ∧ (Record.marker m).withLoss = .marker { m with loss := true }) ∧
  ∀ n : Nat,
    bytesLE 2 n = [BitVec.ofNat 8 n, BitVec.ofNat 8 (n / 256)] ∧
    bytesLE 3 n = [BitVec.ofNat 8 n, BitVec.ofNat 8 (n / 256), BitVec.ofNat 8 (n / 65536)] ∧
    bytesLE 4 n = [BitVec.ofNat 8 n, BitVec.ofNat 8 (n / 256), BitVec.ofNat 8 (n / 65536), BitVec.ofNat 8 (n / 16777216)]

/-- A record is offered (R28, R141, R146): under HALT at 1023 records it is held, the sequencer is HALTED and its flag
set (R31, R142, R143); else it is appended and the sequencer goes on (R29). A DRAIN, or an EMPTY_QUEUE, that takes the
count below 1023 appends the held record and the sequencer goes on (R32, R144); the ACK of the DRAIN carries the records
it removed and the count before the release (R150). -/
def Obligations.HeldRecordIsReleased : Prop :=
  (∀ (s : State) (o : Offer),
    (s.rq.policy = .halt → 1023 ≤ s.rq.records.length →
      offerSample o s =
        { s with seq.state := .halted, rq.held := some o, lp.flags := s.lp.flags ||| Flag.halted.bit }) ∧
    (s.rq.policy = .discard ∨ s.rq.records.length < 1023 →
      offerSample o s = afterAppend o.stopCause (appendSample o.record s))) ∧
  (∀ (s : State) (tag n : Byte) (rest : List Frame) (o : Offer), s.ready ⟨0x48, tag, [n]⟩ rest → 1 ≤ n.toNat →
    n.toNat ≤ 16 → s.rq.held = some o →
    let drained : State :=
      { s with rq.records := s.rq.records.drop n.toNat, rq.lossMark := s.rq.lossMark && s.rq.records.isEmpty }
    let body := drainReply s.rq.lossMark (s.rq.records.length - n.toNat) (s.rq.records.take n.toNat)
    (s.rq.records.length - n.toNat < 1023 →
      exec (.drain tag [n]) s =
        .next (answered rest 0xC8 tag body
          (afterAppend o.stopCause (appendSample o.record { drained with rq.held := none })))) ∧
    (1023 ≤ s.rq.records.length - n.toNat → exec (.drain tag [n]) s = .next (answered rest 0xC8 tag body drained))) ∧
  ∀ (s : State) (tag : Byte) (mask : BitVec 16) (rest : List Frame) (o : Offer),
    s.ready ⟨0x03, tag, bytesLE 2 mask.toNat ++ [0x01]⟩ rest → mask.toNat < 16384 → s.rq.held = some o →
    let t := afterAppend o.stopCause (appendSample o.record
      { s with rq.records := [], rq.lossMark := false, rq.held := none,
               lp.flags := s.lp.flags &&& ~~~mask.setWidth 14 })
    exec (.emptyQueue tag mask) s = .next (answered rest 0x83 tag (bytesLE 2 t.lp.flags.toNat) t)

/-! ## The serial line -/

/-- The receiver, TABLE 9.3 (R158, R159, R161): each byte by the receiver's state, the gap timer restarted at each byte
of a frame; a LEN above 240, a wrong sum, and a good frame with no slot free discard the frame with LINK_ERROR. The same
for a gap above 5000 microseconds, after which the next byte is judged in HUNT (R159). FRAME_COMPLETE and LEN_ERROR are
BYTE_RECEIVED's own cases (log 7). A byte's ten levels on LRX spell BYTE_RECEIVED (R156), and a byte with a low stop bit
is no byte: outside HUNT it is a framing error with LINK_ERROR once LRX is high, and till then the receiver takes no byte
(R160). That the ten levels come as one command, with the stop bit low as FRAMING_ERROR (log 5, log 6), and that
FRAMING_ERROR with LRX low only sets the mark `badStop` that stands for the wait (log 6), are the model's choices. Nothing
is received in a break (R167). RDY stands while fewer than four frames wait (R162). Sums are modulo 256 (R161). -/
def Obligations.ReceiverTakesBytes : Prop :=
  (∀ (s : State) (b : Byte), s.lp.inBreak = false → s.lp.badStop = false → s.pins.rstn = true → s.lp.gap.getD 0 ≤ 5000 →
    let error : State := { s with lp.rx := .hunt, lp.gap := none, lp.flags := s.lp.flags ||| Flag.linkError.bit }
    (s.lp.rx = .hunt →
      exec (.byteReceived b) s =
        .next (if b = 0xC3 then { s with lp.rx := .headerLen, lp.gap := some 0 } else s)) ∧
    (s.lp.rx = .headerLen →
      (b.toNat ≤ 240 →
        exec (.byteReceived b) s = .next { s with lp.rx := .headerKind b, lp.gap := some 0 }) ∧
      (240 < b.toNat → exec (.byteReceived b) s = .next error ∧ exec (.lenError b) s = .next error)) ∧
    (∀ len, s.lp.rx = .headerKind len →
      exec (.byteReceived b) s = .next { s with lp.rx := .headerTag len b, lp.gap := some 0 }) ∧
    (∀ len kind, s.lp.rx = .headerTag len kind →
      exec (.byteReceived b) s =
        .next { s with lp.rx := if len = 0 then .check len kind b [] else .body len kind b [], lp.gap := some 0 }) ∧
    (∀ len kind tag taken, s.lp.rx = .body len kind tag taken →
      exec (.byteReceived b) s =
        .next { s with
          lp.rx := if taken.length + 1 = len.toNat then .check len kind tag (taken ++ [b])
            else .body len kind tag (taken ++ [b])
          lp.gap := some 0 }) ∧
    (∀ len kind tag taken, s.lp.rx = .check len kind tag taken →
      exec (.byteReceived b) s = exec (.frameComplete b) s ∧
      (byteSum ([len, kind, tag] ++ taken ++ [b]) = 0 → s.lp.requests.length < 4 →
        exec (.frameComplete b) s =
          .next { s with lp.rx := .hunt, lp.gap := none, lp.requests := s.lp.requests ++ [⟨kind, tag, taken⟩] }) ∧
      (byteSum ([len, kind, tag] ++ taken ++ [b]) ≠ 0 ∨ 4 ≤ s.lp.requests.length →
        exec (.frameComplete b) s = .next error)) ∧
    exec .gapTimeout s = .next s) ∧
  (∀ s : State, s.lp.inBreak = false → s.pins.rstn = true →
    (s.pins.lrx = false → exec .framingError s = .next { s with lp.badStop := true }) ∧
    (s.pins.lrx = true → s.lp.rx ≠ .hunt →
      exec .framingError s =
        .next { s with lp.badStop := false, lp.rx := .hunt, lp.gap := none,
                       lp.flags := s.lp.flags ||| Flag.linkError.bit }) ∧
    (s.pins.lrx = true → s.lp.rx = .hunt → exec .framingError s = .next { s with lp.badStop := false })) ∧
  (∀ (s : State) (b : Byte), s.lp.inBreak = false → s.lp.badStop = false → s.pins.rstn = true → 5000 < s.lp.gap.getD 0 →
    let error : State := { s with lp.rx := .hunt, lp.gap := none, lp.flags := s.lp.flags ||| Flag.linkError.bit }
    exec .gapTimeout s = .next error ∧
    exec (.byteReceived b) s =
      .next (if b = 0xC3 then { error with lp.rx := .headerLen, lp.gap := some 0 } else error)) ∧
  (∀ (s : State) (b : Byte), s.lp.inBreak = true ∨ s.lp.badStop = true → exec (.byteReceived b) s = .next s) ∧
  (∀ s : State, s.lp.inBreak = true → exec .framingError s = .next s) ∧
  (∀ b : Byte,
    byteLevels b = [false] ++ (List.range 8).map b.getLsbD ++ [true] ∧
    lineCommand (byteLevels b) = some (.byteReceived b) ∧
    lineCommand ((byteLevels b).take 9 ++ [false]) = some .framingError) ∧
  (∀ s : State, rdy s = true ↔ s.pins.rstn = true ∧ s.lp.requests.length < 4) ∧
  ∀ bytes : List Byte, (byteSum bytes).toNat = (bytes.map (·.toNat)).sum % 256

/-- A whole frame sent to a hunting receiver with a free slot joins the request buffer as it was laid out: no byte of its
kind, tag or body is dropped (TABLE 9.2, R157, R158, R161, R162). -/
def Obligations.FrameBytesJoinTheBuffer : Prop :=
  ∀ (s : State) (f : Frame), s.lp.inBreak = false → s.lp.badStop = false → s.pins.rstn = true → s.lp.rx = .hunt →
    s.lp.gap = none → s.lp.requests.length < 4 → f.body.length ≤ 240 →
    receiveAll f.bytes s = .next { s with lp.requests := s.lp.requests ++ [f] }

/-- A break (R168): the partial frame and the request buffer are discarded, a request in service is marked, the receiver
waits for the line, a low stop bit before it being the break's and no framing error (R160); with no reply in the buffer LINK_BREAK is set at once, a reply being sent is cut, and one waiting on
HOLDN is discarded at once (that of RESET as in `ResetTakesEffectAfterItsReply`). Its end makes the detector ready
(R167). It is due when LRX has been low for 20 bit times (log 20). -/
def Obligations.BreakClearsTheLink : Prop :=
  (∀ s : State, s.lp.inBreak = false → s.pins.lrx = false →
    breakTime s.lp.speed ≤ s.lp.lowFor →
    let broken : State :=
      { s with lp := { s.lp with rx := .hunt, gap := none, inBreak := true, badStop := false, requests := [],
                                 abandoned := decide (s.lp.service ≠ .idle) } }
    (s.lp.reply = none →
      exec .linkBreak s = .next { broken with lp.flags := s.lp.flags ||| Flag.linkBreak.bit }) ∧
    (∀ r, s.lp.reply = some r → r.waiting = false →
      exec .linkBreak s = .next { broken with lp.reply := some { r with cut := true } }) ∧
    (∀ r, s.lp.reply = some r → r.waiting = true → r.reply.kind ≠ 0x85 →
      exec .linkBreak s =
        .next { broken with lp.reply := none, lp.flags := s.lp.flags ||| Flag.linkBreak.bit })) ∧
  ∀ s : State, s.lp.inBreak = true → s.pins.lrx = true →
    exec .breakEnd s = .next { s with lp.inBreak := false, lp.rx := .hunt, lp.gap := none }

/-- The transmitter (R165, R166, R168): after a byte other than the last it tests HOLDN, the next byte following with no
idle time; the release starts the next byte; the last byte empties the reply buffer; after a break the rest is discarded
and LINK_BREAK set. The reply to RESET is in `ResetTakesEffectAfterItsReply`. A frame is its LEN + 5 bytes in the order of
TABLE 9.2, with the sum zero (R157). LTX takes a byte's levels bit by bit and is high at rest and while the transmitter
waits (R156, R166). These clauses are the model's choice: the clock that measures a byte in millionths of a bit time, that
REPLY_BYTE_SENT and REPLY_SENT end the byte at whatever the clock is, and that what is over of the clock goes to the next
byte and 0 to one that waited (log 6). These are the model's reading: that HOLDN is tested at the end of a byte (log 17),
and what a break found in the last byte leaves (log 13). -/
def Obligations.TransmitterSendsTheReply : Prop :=
  (∀ (s : State) (r : Transmission), s.lp.reply = some r →
    (r.waiting = false → r.sent + 1 < r.reply.size → r.cut = false →
      exec .replyByteSent s =
        .next { s with lp.reply := some { r with sent := r.sent + 1, waiting := !s.pins.holdn,
                                                 clock := if s.pins.holdn then r.clock - 10000000 else 0 } }) ∧
    (r.waiting = false → r.sent + 1 = r.reply.size → r.cut = false → r.reply.kind ≠ 0x85 →
      exec .replySent s = .next { s with lp.reply := none }) ∧
    (r.waiting = false → r.cut = true → r.reply.kind ≠ 0x85 →
      (r.sent + 1 < r.reply.size →
        exec .replyByteSent s =
          .next { s with lp.reply := none, lp.flags := s.lp.flags ||| Flag.linkBreak.bit }) ∧
      (r.sent + 1 = r.reply.size →
        exec .replySent s =
          .next { s with lp.reply := none, lp.flags := s.lp.flags ||| Flag.linkBreak.bit })) ∧
    (r.waiting = true → s.pins.holdn = true →
      exec .holdnRelease s = .next { s with lp.reply := some { r with waiting := false, clock := 0 } }) ∧
    (r.waiting = true → ltx s = true) ∧
    ∀ b, r.waiting = false → r.reply.bytes[r.sent]? = some b →
      (r.clock < 1000000 → ltx s = false) ∧
      (∀ k, k < 8 → (k + 1) * 1000000 ≤ r.clock → r.clock < (k + 2) * 1000000 → ltx s = b.getLsbD k) ∧
      (9000000 ≤ r.clock → ltx s = true)) ∧
  (∀ s : State, s.lp.reply = none → ltx s = true) ∧
  ∀ f : Frame, ∃ chk,
    f.bytes = [0xC3, BitVec.ofNat 8 f.body.length, f.kind, f.tag] ++ f.body ++ [chk] ∧
    byteSum (f.bytes.drop 1) = 0 ∧ f.bytes.length = f.size ∧ f.size = f.body.length + 5

/-! ## The run -/

/-- A settle expiry reads DIN and the pass clock; an ANALOG step claims the Converter with its entry's channel, range and
averaging, a DIGITAL step offers the DIN byte as its record with no flag and no optional field (R27, R86, R101, R66). -/
def Obligations.SettleExpiryReadsThenClaimsOrOffers : Prop :=
  ∀ s : State, s.seq.state = .running .settling → s.seq.settle = some 0 →
    let e := s.ps.slots.get s.seq.stepIndex
    let held : State :=
      { s with fm.heldByte := s.pins.din, fm.heldStamp := s.seq.passClock, seq.settle := none }
    (e.source = .analog →
      exec .settleExpiry s =
        .next { held with
          seq.state := .running .converting
          cv := { mux := e.channel,
                  claim := some { claimant := .step, channel := e.channel, range := e.range, asked := e.averaging,
                                  done := 0, sum := 0, overrange := false, input := s.pins.ain.get e.channel,
                                  left := 5 } } }) ∧
    (e.source = .digital →
      exec .settleExpiry s =
        .next (offerSample
          { record := { step := s.seq.stepIndex, source := .digital, value := s.pins.din.setWidth 16,
                        flags := { ovr := false, high := false, low := false, overridden := false, floor := false,
                                   unmapped := false, loss := false },
                        raw := none, digital := none, stamp := none },
            stopCause := false } held))

/-- The step timer's expiry begins the next step from spacing, and is otherwise remembered (R30). The pacer's expiry
starts it again for one pass interval; in WAITING it starts the next pass, in a pass it is a missed tick, counted up to
255 (R35, R36). -/
def Obligations.StepTimerAndPacerExpiries : Prop :=
  (∀ s : State, s.seq.stepTimer = .running 0 →
    (s.seq.state = .running .spacing →
      exec .stepTimerExpiry s =
        .next (stepBegin { s with seq.stepIndex := s.seq.stepIndex + 1, seq.pauseMark := false })) ∧
    (s.seq.state ≠ .running .spacing → exec .stepTimerExpiry s = .next { s with seq.stepTimer := .expired })) ∧
  ∀ s : State, s.seq.pacer = some 0 →
    (s.seq.state = .waiting →
      exec .pacerExpiry s = .next (passStart { s with seq.pacer := some s.seq.ctx.passInterval.toNat })) ∧
    (s.seq.state.inPass = true →
      exec .pacerExpiry s =
        .next { s with
          seq := { s.seq with pacer := some s.seq.ctx.passInterval.toNat,
                              missedTicks := if s.seq.missedTicks = 255 then 255 else s.seq.missedTicks + 1 }
          lp.flags := s.lp.flags ||| Flag.tickMissed.bit })

/-- A conversion end adds its code; with conversions left the next one samples the input anew for 5 microseconds
(R66, R70); the last completes a step's claim: the zone is judged and the record offered (R71, R28). -/
def Obligations.ConversionEndAddsOrCompletes : Prop :=
  ∀ (s : State) (c : Claim), s.cv.claim = some c → c.left = 0 →
    (c.done + 1 < c.asked.count →
      exec .conversionEnd s =
        .next { s with
          cv.claim := some
            { c with done := c.done + 1, sum := c.sum + (convert c.range c.input).1,
                     overrange := c.overrange || (convert c.range c.input).2,
                     input := s.pins.ain.get c.channel, left := 5 } }) ∧
    (c.done + 1 = c.asked.count → c.claimant = .step →
      exec .conversionEnd s =
        .next (completeStep ((c.sum + (convert c.range c.input).1) / c.asked.count)
          (c.overrange || (convert c.range c.input).2) { s with cv.claim := none }))

/-- A step's completion (R86 to R100): with limits enabled the slot's zone moves by TABLE 5.3, a move out of NORMAL sets
LIMIT and, with limit stop, marks the record as stop cause; the value is formed under the judgements; the raw code, the
DIN byte and the stamp are kept where profile and entry ask for them. -/
def Obligations.StepCompletionFormsTheRecord : Prop :=
  ∀ (s : State) (raw : Nat) (ovr : Bool),
    let e := s.ps.slots.get s.seq.stepIndex
    let p := s.fm.active.get e.profile
    let before := s.fm.zones.get s.seq.stepIndex
    let after := if p.limits then p.zoneAfter before raw else before
    let crossed := decide (before = .normal) && decide (after ≠ .normal)
    let j : Judgement :=
      { high := p.limits && decide (after = .high), low := p.limits && decide (after = .low), ovr,
        din := s.fm.heldByte }
    let v := p.formed s.fm.subst s.tm e.channel raw j
    completeStep raw ovr s =
      offerSample
        { record := { step := s.seq.stepIndex, source := .analog e.channel, value := v.value,
                      flags := { ovr, high := j.high, low := j.low, overridden := v.overridden, floor := v.floor,
                                 unmapped := v.unmapped, loss := false },
                      raw := if p.keepRaw then some (BitVec.ofNat 14 raw) else none,
                      digital := if e.capture then some s.fm.heldByte else none,
                      stamp := if p.stamp then some s.fm.heldStamp else none },
          stopCause := crossed && p.limitStop }
        { s with
          fm.zones := s.fm.zones.set s.seq.stepIndex.val after s.seq.stepIndex.isLt
          lp.flags := if crossed then s.lp.flags ||| Flag.limit.bit else s.lp.flags }

/-- The level monitor (R56, R57): its interval's expiry restarts the timer and claims the Converter for one conversion; a
completion with the condition false is noted, one with it true and not seen false before is passed over, and one with it
true after false is the start trigger in ARMED. -/
def Obligations.LevelMonitorTriggers : Prop :=
  (∀ s : State, s.tu.monitor = .timing → s.tu.monitorTimer = some 0 →
    exec .monitorIntervalExpiry s =
      .next { s with
        tu := { s.tu with monitor := .converting, monitorTimer := some s.tu.cfg.monitorInterval.toNat }
        cv := { mux := s.tu.cfg.monitorChannel,
                claim := some { claimant := .monitor, channel := s.tu.cfg.monitorChannel, range := s.tu.cfg.monitorRange,
                                asked := .one, done := 0, sum := 0, overrange := false,
                                input := s.pins.ain.get s.tu.cfg.monitorChannel, left := 5 } } }) ∧
  ∀ (s : State) (c : Claim), s.cv.claim = some c → c.left = 0 → c.claimant = .monitor → c.asked = .one → c.done = 0 →
    c.sum = 0 →
    let raw := (convert c.range c.input).1
    let met := match s.tu.cfg.direction with
      | .above => s.tu.cfg.threshold.toNat < raw
      | .below => raw < s.tu.cfg.threshold.toNat
    (¬ met → exec .conversionEnd s = .next { s with cv.claim := none, tu.monitor := .timing, tu.seenFalse := true }) ∧
    (met → s.tu.seenFalse = false →
      exec .conversionEnd s = .next { s with cv.claim := none, tu.monitor := .timing }) ∧
    (met → s.tu.seenFalse = true → s.seq.state = .armed →
      exec .conversionEnd s =
        .next (startTrigger { s with cv.claim := none, tu.monitor := .idle, tu.monitorTimer := none }))

/-- The samples of the Trigger Unit. An edge of the configured polarity (R48, R49), or a pattern event (R52, R53, R54,
which sets PATTERN), starts a run armed for it, and stops a run whose stop set has it; an edge releases a pause whose
release is LINE. A sample that is neither is kept as the one before the next. A sample that is one is reported by either
of its commands (log 7). -/
def Obligations.TriggerSamplesAreReported : Prop :=
  (∀ s : State, s.tu.lineWatching = true → s.tu.lineDue = true →
    let kept : State := { s with tu.lineLevel := s.pins.trig, tu.lineDue := false }
    let edge := match s.tu.cfg.polarity with
      | .rising => s.tu.lineLevel = false ∧ s.pins.trig = true
      | .falling => s.tu.lineLevel = true ∧ s.pins.trig = false
    (¬ edge → exec .lineWatcherSample s = .next kept) ∧
    (edge → exec .trigEdge s = exec .lineWatcherSample s ∧
      (s.seq.state = .armed →
        exec .trigEdge s = .next (if s.seq.ctx.start = .line then startTrigger kept else kept)) ∧
      (s.seq.state = .paused → s.seq.ctx.release = .line →
        exec .trigEdge s = .next (stepBegin { kept with seq.pauseMark := true })) ∧
      (s.seq.state ≠ .armed → s.seq.state ≠ .stopped → ¬ (s.seq.state = .paused ∧ s.seq.ctx.release = .line) →
        (s.seq.ctx.stopLine = false → exec .trigEdge s = .next kept) ∧
        (s.seq.ctx.stopLine = true → ∃ t, exec .trigEdge s = .next t ∧ RunStopped .line kept t)))) ∧
  ∀ s : State, s.tu.cmpWatching = true → s.tu.cmpDue = true →
    let masked := s.pins.din &&& s.tu.cfg.mask
    let matched := decide (masked = s.tu.cfg.compare &&& s.tu.cfg.mask)
    let kept : State := { s with tu.prevMasked := masked, tu.prevMatch := matched, tu.cmpDue := false }
    let flagged : State := { kept with lp.flags := s.lp.flags ||| Flag.pattern.bit }
    let event := s.tu.cfg.mask ≠ 0 ∧ match s.tu.cfg.mode with
      | .matching => matched = true ∧ s.tu.prevMatch = false
      | .change => masked ≠ s.tu.prevMasked
    (¬ event → exec .comparatorSample s = .next kept) ∧
    (event → exec .patternEvent s = exec .comparatorSample s ∧
      (s.seq.state = .armed →
        exec .patternEvent s = .next (if s.seq.ctx.start = .pattern then startTrigger flagged else flagged)) ∧
      (s.seq.state ≠ .armed → s.seq.state ≠ .stopped →
        (s.seq.ctx.stopPattern = false → exec .patternEvent s = .next flagged) ∧
        (s.seq.ctx.stopPattern = true → ∃ t, exec .patternEvent s = .next t ∧ RunStopped .pattern flagged t)))

/-- A step begin (R24, R7), a pass start (R23) and the start trigger (R22; that it drops a comparator sample of ARMED
under PACER sampling is the model's reading, log 14). -/
def Obligations.StepsAndPassesBegin : Prop :=
  (∀ s : State,
    let e := s.ps.slots.get s.seq.stepIndex
    (e.pause = true → s.seq.pauseMark = false →
      stepBegin s =
        { s with
          seq := { s.seq with state := .paused, stepTimer := .idle, settle := none }
          lp.flags := s.lp.flags ||| Flag.paused.bit }) ∧
    (e.pause = false ∨ s.seq.pauseMark = true →
      stepBegin s =
        { s with
          dl.latch := e.pattern.getD s.dl.latch
          seq := { s.seq with
            state := .running .settling
            stepTimer := if s.seq.ctx.stepInterval = 0 then .expired else .running s.seq.ctx.stepInterval.toNat
            settle := some (if e.source = .digital ∧ e.settle = 0 then 1 else e.settle.toNat) } })) ∧
  (∀ s : State,
    passStart s =
      stepBegin
        { s with
          seq := { s.seq with
            passNumber := s.seq.passNumber + 1
            passesStarted := if s.seq.passesStarted = 65535 then 65535 else s.seq.passesStarted + 1
            missedTicks := 0, sampleCount := 0, passClock := 0, stepIndex := 0, pauseMark := false }
          ck.a.residue := s.ck.a.cfg.initialResidue }) ∧
  ∀ s : State,
    startTrigger s =
      passStart
        { s with
          seq.pacer := if s.seq.ctx.passInterval = 0 then none else some s.seq.ctx.passInterval.toNat
          tu.cmpDue := s.tu.cmpDue && decide (s.tu.cfg.sampling = .timebase)
          lp.flags := s.lp.flags ||| Flag.triggered.bit }

/-- An append of a sample record or of a pass marker (R141, R142, R146, R149): it joins the tail, under DISCARD a full
queue gives up its head with the loss mark and QUEUE_LOSS, the level test sets QUEUE_LEVEL as the count reaches the
level. Unit A absorbs a sample's value and the sequencer counts it (R132); a marker it neither absorbs nor counts. -/
def Obligations.AppendingASample : Prop :=
  (∀ (s : State) (r : SampleRecord),
    appendSample r s =
      { s.withRecord (.sample r) with
        ck.a.residue := absorbWord s.ck.a.cfg s.ck.a.residue r.value
        seq.sampleCount := s.seq.sampleCount + 1 }) ∧
  ∀ (s : State) (status : MarkerStatus), appendMarker status s = s.withRecord (closingMarker status s)

/-- After an append (R29): a limit stop inside the pass; the pass end at the last step, with the COMPLETE marker, PASS_END,
the pass boundary, and the run going on by TABLE 2.5 (R33, R34); the next step where the step timer has expired; else
the spacing. -/
def Obligations.SequencerContinuesAfterAppend : Prop :=
  ∀ (s : State) (stopCause : Bool),
    let last := s.seq.stepIndex.val + 1 = s.ps.length
    let limited := stopCause = true ∧ s.seq.ctx.stopLimit = true
    (limited → ¬ last → RunStopped .limit s (afterAppend stopCause s)) ∧
    (last →
      let closed := s.withRecord (closingMarker .complete s)
      ∃ fm tm,
        let t : State := { closed with lp.flags := closed.lp.flags ||| Flag.passEnd.bit, fm, tm }
        PassBoundary s t ∧ fm.zones = s.fm.zones ∧ fm.subst = s.fm.subst ∧ fm.heldByte = s.fm.heldByte ∧
        fm.heldStamp = s.fm.heldStamp ∧
        (limited → afterAppend stopCause s = enterStopped .limit t) ∧
        (¬ limited → s.seq.ctx.passLimit ≠ 0 → s.seq.passesStarted = s.seq.ctx.passLimit →
          afterAppend stopCause s = enterStopped .complete t) ∧
        (¬ limited → s.seq.ctx.passLimit = 0 ∨ s.seq.passesStarted ≠ s.seq.ctx.passLimit →
          (s.seq.ctx.passInterval = 0 → afterAppend stopCause s = passStart t) ∧
          (s.seq.ctx.passInterval ≠ 0 →
            afterAppend stopCause s =
              { t with seq := { t.seq with state := .waiting, stepTimer := .idle, settle := none } }))) ∧
    (¬ limited → ¬ last →
      (s.seq.stepTimer = .expired →
        afterAppend stopCause s =
          stepBegin { s with seq.stepIndex := s.seq.stepIndex + 1, seq.pauseMark := false }) ∧
      (s.seq.stepTimer ≠ .expired → afterAppend stopCause s = { s with seq.state := .running .spacing })) ∧
    (∀ cause, cause ≠ .reset → s.rq.held = none → RunEnded cause s (enterStopped cause s))

/-! ## Values -/

/-- The ideal codes (R67 to R69): in a bipolar range of half-span r the code of an in-range input is the whole part of
8192 + 8192 v / r, in UNI10 that of 16383 v / 10 V; below the range it is 0 and above it 16383, both overranged. Input
voltages are whole femtovolts (log 11). -/
def Obligations.ConversionCodes : Prop :=
  ∀ (v : Int) (code : Nat),
    (∀ range, ∀ r : Int,
      (range, r) ∈ [(Range.bip10, 10000000000000000), (.bip5, 5000000000000000), (.bip2, 2500000000000000)] →
      (v < -r → convert range v = (0, true)) ∧
      (r ≤ v → convert range v = (16383, true)) ∧
      (-r ≤ v → v < r → (code : Int) * r ≤ (v + r) * 8192 → (v + r) * 8192 < (code + 1 : Int) * r →
        convert range v = (code, false))) ∧
    (v < 0 → convert .uni10 v = (0, true)) ∧
    (10000000000000000 < v → convert .uni10 v = (16383, true)) ∧
    (0 ≤ v → v ≤ 10000000000000000 → (code : Int) * 10000000000000000 ≤ v * 16383 →
      v * 16383 < (code + 1 : Int) * 10000000000000000 → convert .uni10 v = (code, false))

/-- TABLE 5.3, the zone after a step, for every zone and raw code, with H - Y not below 0 and L + Y not above 16383
(R87). At raw code 0 with L = 0 and H below Y, and at 16383 with H = 16383 and L + Y above it, R88's words give no way
back to NORMAL: that R87's bounds decide there is the model's choice (log 22). -/
def Obligations.ZoneTable : Prop :=
  ∀ (p : Profile) (raw : Nat), p.valid → raw ≤ 16383 →
    let H : Int := p.high.toNat
    let L : Int := p.low.toNat
    let Y : Int := p.hysteresis.toNat
    (p.zoneAfter .normal raw = .high ↔ H < raw) ∧
    (p.zoneAfter .normal raw = .low ↔ raw < L) ∧
    (p.zoneAfter .high raw = .low ↔ raw < L) ∧
    (p.zoneAfter .high raw = .normal ↔ L ≤ raw ∧ raw ≤ max (H - Y) 0) ∧
    (p.zoneAfter .low raw = .high ↔ H < raw) ∧
    (p.zoneAfter .low raw = .normal ↔ raw ≤ H ∧ min (L + Y) 16383 ≤ raw)

/-- The direct forms (R95), for every raw code. -/
def Obligations.DirectForms : Prop :=
  ∀ (p : Profile) (tm : TranslationMap) (channel : Fin 16) (raw : Nat), raw ≤ 16383 →
    let value := (p.formValue tm channel raw).value
    (p.form = .directRight → value.toNat = raw) ∧
    (p.form = .directLeft → value.toNat = 4 * raw) ∧
    (p.form = .signed → value.toInt = (raw : Int) - 8192)

/-- How a value is formed: the condition vector's substitute where it is not 0 (R92, R93), else the floor's substitute 0
at or below the floor (R94), else the form; a direct form carries no flag (R99); a MAPPED value reads the live half of the page of its channel or of the
profile (R96) and interpolates, truncated toward the entry below, and lies between the two entries (R97). -/
def Obligations.OverrideFloorAndMap : Prop :=
  (∀ (p : Profile) (subst : Vector Word16 16) (tm : TranslationMap) (channel : Fin 16) (raw : Nat) (j : Judgement),
    let bit (slot : ConditionSlot) (weight : Nat) : Nat :=
      if slot.enabled && (match slot.source with
        | .din line => j.din.getLsbD line.val
        | .high => j.high
        | .low => j.low
        | .ovr => j.ovr) then weight else 0
    (p.vector j).val = bit p.slot0 1 + bit p.slot1 2 + bit p.slot2 4 + bit p.slot3 8 ∧
    (p.vector j ≠ 0 →
      p.formed subst tm channel raw j = ⟨subst.get (p.vector j), true, false, false⟩) ∧
    (p.vector j = 0 → p.floorEnabled = true → raw ≤ p.floor.toNat →
      p.formed subst tm channel raw j = ⟨subst.get 0, false, true, false⟩) ∧
    (p.vector j = 0 → p.floorEnabled = false ∨ p.floor.toNat < raw →
      p.formed subst tm channel raw j = p.formValue tm channel raw) ∧
    (p.form ≠ .mapped → ∃ value, p.formValue tm channel raw = ⟨value, false, false, false⟩) ∧
    (p.form = .mapped →
      let pg := tm.pages.get (if p.pageSource = .channel then channel else p.page)
      (pg.state pg.live = .empty →
        p.formValue tm channel raw = ⟨BitVec.ofNat 16 raw, false, false, true⟩) ∧
      (pg.state pg.live ≠ .empty →
        p.formValue tm channel raw = ⟨interpolate (pg.entries pg.live) raw, false, false, false⟩))) ∧
  ∀ (t : Vector Word16 256) (raw : Nat), raw ≤ 16383 →
    (∀ i : Fin 256, i.val = 255 → raw / 64 = 255 → interpolate t raw = t.get i) ∧
    ∀ i k : Fin 256, raw / 64 = i.val → k.val = i.val + 1 →
      let low := (t.get i).toInt
      let high := (t.get k).toInt
      let f : Int := (raw % 64 : Nat)
      (interpolate t raw).toInt = low + ((high - low) * f).tdiv 64 ∧
      min low high ≤ (interpolate t raw).toInt ∧ (interpolate t raw).toInt ≤ max low high

/-- A check unit takes one bit in three steps (R126), on a residue within its width; a word is its sixteen bits from bit
15 down, or from bit 0 up (R127). The final value is the residue, or its complement under final inversion, within the
width, and 0 above it (R128). -/
def Obligations.ResidueBitAndWord : Prop :=
  (∀ (c : CheckConfig) (r : BitVec 32) (b : Bool), c.valid → r.toNat < 2 ^ c.width →
    let feedback := Bool.xor b (r.getLsbD (c.width - 1))
    (absorbBit c r b).toNat < 2 ^ c.width ∧
    ∀ k, k < c.width →
      (absorbBit c r b).getLsbD k =
        Bool.xor (if k = 0 then false else r.getLsbD (k - 1)) (feedback && c.polynomial.getLsbD k)) ∧
  (∀ (c : CheckConfig) (r : BitVec 32) (w : Word16),
    (c.order = .msbFirst →
      absorbWord c r w =
        [15, 14, 13, 12, 11, 10, 9, 8, 7, 6, 5, 4, 3, 2, 1, 0].foldl (fun x k => absorbBit c x (w.getLsbD k)) r) ∧
    (c.order = .lsbFirst →
      absorbWord c r w =
        [0, 1, 2, 3, 4, 5, 6, 7, 8, 9, 10, 11, 12, 13, 14, 15].foldl (fun x k => absorbBit c x (w.getLsbD k)) r)) ∧
  ∀ u : CheckUnit, u.cfg.valid → u.residue.toNat < 2 ^ u.cfg.width →
    (∀ k, k < u.cfg.width → u.final.getLsbD k = Bool.xor u.cfg.invert (u.residue.getLsbD k)) ∧
    ∀ k, u.cfg.width ≤ k → u.final.getLsbD k = false

/-! ## The readers of bodies -/

/-- What a host lays out is what the part reads: entry, ARM, TRIGGER SET, SAMPLE, profile and check configuration, each at
every value of every field (TABLES 10.4 to 10.8, 10.10). -/
def Obligations.ReadersInvertLayouts : Prop :=
  (∀ e : Entry, entry? e.bytes = some e) ∧
  (∀ es : List Entry, entries? es.length (es.flatMap Entry.bytes) = some es) ∧
  (∀ f : ArmFields, f.valid → arm? f.bytes = some f) ∧
  (∀ c : TriggerConfig, 10 ≤ c.monitorInterval.toNat → trigger? c.bytes = some c) ∧
  (∀ f : SampleFields, sample? f.bytes = some f) ∧
  (∀ p : Profile, p.valid → profile? p.bytes = some p) ∧
  (∀ c : CheckConfig, c.valid → checkConfig? c.bytes = some c)

/-- The readers refuse exactly what the tables exclude: a code outside its field's values, a reserved bit, a number out
of range, and the combinations the rules name (R2, R20, R47, R74, R81, TABLE 7.3, R177). A list of entries is read entry
by entry and refused whole where any of them is invalid (R11). An entry whose pattern is marked absent has none,
whatever its pattern byte (R2, R177). -/
def Obligations.ReadersRefuseWhatTheTablesExclude : Prop :=
  (∀ (n : Nat) (bytes : List Byte), bytes.length = 9 * n →
    ((∃ i, i < n ∧ entry? ((bytes.drop (9 * i)).take 9) = none) → entries? n bytes = none) ∧
    ∀ es, entries? n bytes = some es →
      es.length = n ∧ ∀ i, i < n → es[i]? = entry? ((bytes.drop (9 * i)).take 9)) ∧
  (∀ (b0 b1 b2 b3 b4 b5 b6 b7 b8 : Byte) (e : Entry), entry? [b0, b1, b2, b3, b4, b5, b6, b7, b8] = some e →
    e.pattern = if b5.getLsbD 2 then some b6 else none) ∧
  (∀ b0 b1 b2 b3 b4 b5 b6 b7 b8 : Byte,
    (entry? [b0, b1, b2, b3, b4, b5, b6, b7, b8]).isSome = true ↔
      b0.toNat < 2 ∧ b1.toNat < 16 ∧ b2.toNat < 4 ∧ (b3 = 1 ∨ b3 = 2 ∨ b3 = 4 ∨ b3 = 8) ∧ b4.toNat < 16 ∧
        b5.toNat < 8) ∧
  (∀ b0 b1 b2 b3 b4 b5 b6 b7 b8 b9 b10 b11 b12 : Byte,
    (arm? [b0, b1, b2, b3, b4, b5, b6, b7, b8, b9, b10, b11, b12]).isSome = true ↔
      (num24 b2 b3 b4 = 0 ∨ 100 ≤ num24 b2 b3 b4) ∧ b7.toNat < 4 ∧ b8.toNat < 8 ∧ b9.toNat < 2 ∧ b10.toNat < 2 ∧
        1 ≤ num16 b11 b12 ∧ num16 b11 b12 ≤ 1024 ∧ ¬ (b8.getLsbD 0 = true ∧ b9 = 1)) ∧
  (∀ b0 b1 b2 b3 b4 b5 b6 b7 b8 b9 b10 b11 : Byte,
    (trigger? [b0, b1, b2, b3, b4, b5, b6, b7, b8, b9, b10, b11]).isSome = true ↔
      b0.toNat < 2 ∧ b3.toNat < 2 ∧ b4.toNat < 2 ∧ b5.toNat < 16 ∧ b6.toNat < 4 ∧ num16 b7 b8 < 16384 ∧
        b9.toNat < 2 ∧ 10 ≤ num16 b10 b11) ∧
  (∀ b0 b1 b2 b3 b4 b5 : Byte,
    (sample? [b0, b1, b2, b3, b4, b5]).isSome = true ↔
      b0.toNat < 16 ∧ b1.toNat < 4 ∧ (b2 = 1 ∨ b2 = 2 ∨ b2 = 4 ∨ b2 = 8) ∧ b3.toNat < 16) ∧
  (∀ b0 b1 b2 b3 b4 b5 b6 b7 b8 b9 b10 b11 b12 b13 b14 b15 : Byte,
    (profile? [b0, b1, b2, b3, b4, b5, b6, b7, b8, b9, b10, b11, b12, b13, b14, b15]).isSome = true ↔
      b0.toNat < 4 ∧ b1.toNat < 2 ∧ b2.toNat < 16 ∧ b3.toNat < 32 ∧ num16 b4 b5 < 16384 ∧ num16 b6 b7 < 16384 ∧
        num16 b8 b9 < 1024 ∧ num16 b10 b11 < 16384 ∧
        (∀ b ∈ [b12, b13, b14, b15], b.toNat % 16 ≤ 10 ∧ b.toNat / 16 % 8 = 0) ∧
        num16 b6 b7 ≤ num16 b4 b5) ∧
  (∀ b0 b1 b2 b3 b4 b5 b6 b7 : Byte,
    (checkConfig? [b0, b1, b2, b3, b4, b5, b6, b7]).isSome = true ↔
      8 ≤ b0.toNat ∧ b0.toNat ≤ 32 ∧ num32 b1 b2 b3 b4 ≠ 0 ∧ num32 b1 b2 b3 b4 < 2 ^ b0.toNat ∧ b5.toNat < 2 ∧
        b6.toNat < 2 ∧ b7.toNat < 2)

/-! ## Invariants -/

/-- Every step keeps the Link Port safe: four slots, frames within the envelope, one request or reply at a time. -/
def Obligations.StepKeepsLinkSafe : Prop := ∀ s t : State, LinkSafe s → step s = .next t → LinkSafe t

/-- Every step keeps the queue, the held slot and the Converter's claims in agreement with the sequencer. -/
def Obligations.StepKeepsRunSafe : Prop := ∀ s t : State, RunSafe s → step s = .next t → RunSafe t

/-- Every step keeps the pages: the live half CHECKED or EMPTY, a pending swap on a CHECKED half in an active state. -/
def Obligations.StepKeepsMapSafe : Prop := ∀ s t : State, MapSafe s → step s = .next t → MapSafe t

/-- Every step keeps what the host has set within its ranges, and nothing staged in STOPPED. -/
def Obligations.StepKeepsSettingsSafe : Prop := ∀ s t : State, SettingsSafe s → step s = .next t → SettingsSafe t

/-- Every step keeps the check units: valid configurations, residues within their width. -/
def Obligations.StepKeepsResidueSafe : Prop := ∀ s t : State, ResidueSafe s → step s = .next t → ResidueSafe t

/-- Every step keeps the program and the place in it: the step index below the length, as many records as steps done. -/
def Obligations.StepKeepsProgramSafe : Prop :=
  ∀ s t : State, RunSafe s → ProgramSafe s → step s = .next t → ProgramSafe t

/-- Every step keeps what runs in each state of the sequencer: watchers, pacer, settle and step timers. -/
def Obligations.StepKeepsTimersSafe : Prop :=
  ∀ s t : State, RunSafe s → TimersSafe s → step s = .next t → TimersSafe t

/-- The invariants hold in the reset state. -/
def Obligations.InvariantsHoldAtReset : Prop :=
  LinkSafe State.reset ∧ RunSafe State.reset ∧ MapSafe State.reset ∧ SettingsSafe State.reset ∧
    ResidueSafe State.reset ∧ ProgramSafe State.reset ∧ TimersSafe State.reset

end
end

