-- ==== Sys2Proof/Laws/Frames.lean ====
section
/-! SUPPORT. The frame of each shared operation: what it leaves unchanged, once for all, as rewrite rules. A later proof cites these in place of the operation's text. -/

namespace Sys2Proof.Machine

@[simp] theorem raise_frame (f : Flag) (s : State) :
    (raise f s).ps = s.ps ∧ (raise f s).seq = s.seq ∧ (raise f s).tu = s.tu ∧ (raise f s).dl = s.dl ∧
    (raise f s).cv = s.cv ∧ (raise f s).fm = s.fm ∧ (raise f s).tm = s.tm ∧ (raise f s).ck = s.ck ∧
    (raise f s).rq = s.rq ∧ (raise f s).lp.speed = s.lp.speed ∧ (raise f s).lp.rx = s.lp.rx ∧
    (raise f s).lp.gap = s.lp.gap ∧ (raise f s).lp.inBreak = s.lp.inBreak ∧ (raise f s).lp.lowFor = s.lp.lowFor ∧
    (raise f s).lp.badStop = s.lp.badStop ∧
    (raise f s).lp.sinceReset = s.lp.sinceReset ∧
    (raise f s).lp.requests = s.lp.requests ∧ (raise f s).lp.service = s.lp.service ∧
    (raise f s).lp.abandoned = s.lp.abandoned ∧ (raise f s).lp.reply = s.lp.reply ∧ (raise f s).lp.mask = s.lp.mask ∧
    (raise f s).pins = s.pins ∧ (raise f s).coming = s.coming ∧ (raise f s).pending = s.pending := by
  simp [raise]

@[simp] theorem clearFlags_frame (mask : BitVec 14) (s : State) :
    (clearFlags mask s).ps = s.ps ∧ (clearFlags mask s).seq = s.seq ∧ (clearFlags mask s).tu = s.tu ∧
    (clearFlags mask s).dl = s.dl ∧ (clearFlags mask s).cv = s.cv ∧ (clearFlags mask s).fm = s.fm ∧
    (clearFlags mask s).tm = s.tm ∧ (clearFlags mask s).ck = s.ck ∧ (clearFlags mask s).rq = s.rq ∧
    (clearFlags mask s).lp.speed = s.lp.speed ∧ (clearFlags mask s).lp.rx = s.lp.rx ∧
    (clearFlags mask s).lp.gap = s.lp.gap ∧ (clearFlags mask s).lp.inBreak = s.lp.inBreak ∧
    (clearFlags mask s).lp.lowFor = s.lp.lowFor ∧ (clearFlags mask s).lp.badStop = s.lp.badStop ∧
    (clearFlags mask s).lp.sinceReset = s.lp.sinceReset ∧ (clearFlags mask s).lp.requests = s.lp.requests ∧
    (clearFlags mask s).lp.service = s.lp.service ∧ (clearFlags mask s).lp.abandoned = s.lp.abandoned ∧
    (clearFlags mask s).lp.reply = s.lp.reply ∧ (clearFlags mask s).lp.mask = s.lp.mask ∧
    (clearFlags mask s).pins = s.pins ∧ (clearFlags mask s).coming = s.coming ∧
    (clearFlags mask s).pending = s.pending := by
  simp [clearFlags]

@[simp] theorem takeRequest_frame (s : State) :
    (takeRequest s).ps = s.ps ∧ (takeRequest s).seq = s.seq ∧ (takeRequest s).tu = s.tu ∧ (takeRequest s).dl = s.dl ∧
    (takeRequest s).cv = s.cv ∧ (takeRequest s).fm = s.fm ∧ (takeRequest s).tm = s.tm ∧ (takeRequest s).ck = s.ck ∧
    (takeRequest s).rq = s.rq ∧ (takeRequest s).lp.speed = s.lp.speed ∧ (takeRequest s).lp.rx = s.lp.rx ∧
    (takeRequest s).lp.gap = s.lp.gap ∧ (takeRequest s).lp.inBreak = s.lp.inBreak ∧
    (takeRequest s).lp.lowFor = s.lp.lowFor ∧ (takeRequest s).lp.badStop = s.lp.badStop ∧
    (takeRequest s).lp.sinceReset = s.lp.sinceReset ∧ (takeRequest s).lp.service = s.lp.service ∧
    (takeRequest s).lp.abandoned = s.lp.abandoned ∧ (takeRequest s).lp.reply = s.lp.reply ∧
    (takeRequest s).lp.flags = s.lp.flags ∧ (takeRequest s).lp.mask = s.lp.mask ∧ (takeRequest s).pins = s.pins ∧
    (takeRequest s).coming = s.coming ∧ (takeRequest s).pending = s.pending := by
  simp [takeRequest]

@[simp] theorem putReply_frame (r : Frame) (s : State) :
    (putReply r s).ps = s.ps ∧ (putReply r s).seq = s.seq ∧ (putReply r s).tu = s.tu ∧ (putReply r s).dl = s.dl ∧
    (putReply r s).cv = s.cv ∧ (putReply r s).fm = s.fm ∧ (putReply r s).tm = s.tm ∧ (putReply r s).ck = s.ck ∧
    (putReply r s).rq = s.rq ∧ (putReply r s).lp.speed = s.lp.speed ∧ (putReply r s).lp.rx = s.lp.rx ∧
    (putReply r s).lp.gap = s.lp.gap ∧ (putReply r s).lp.inBreak = s.lp.inBreak ∧
    (putReply r s).lp.lowFor = s.lp.lowFor ∧ (putReply r s).lp.badStop = s.lp.badStop ∧
    (putReply r s).lp.sinceReset = s.lp.sinceReset ∧ (putReply r s).lp.requests = s.lp.requests ∧
    (putReply r s).lp.service = s.lp.service ∧ (putReply r s).lp.abandoned = s.lp.abandoned ∧
    (putReply r s).lp.flags = s.lp.flags ∧ (putReply r s).lp.mask = s.lp.mask ∧ (putReply r s).pins = s.pins ∧
    (putReply r s).coming = s.coming ∧ (putReply r s).pending = s.pending := by
  simp [putReply]

@[simp] theorem ack_frame (kind tag : Byte) (body : List Byte) (s : State) :
    (ack kind tag body s).ps = s.ps ∧ (ack kind tag body s).seq = s.seq ∧ (ack kind tag body s).tu = s.tu ∧
    (ack kind tag body s).dl = s.dl ∧ (ack kind tag body s).cv = s.cv ∧ (ack kind tag body s).fm = s.fm ∧
    (ack kind tag body s).tm = s.tm ∧ (ack kind tag body s).ck = s.ck ∧ (ack kind tag body s).rq = s.rq ∧
    (ack kind tag body s).lp.speed = s.lp.speed ∧ (ack kind tag body s).lp.rx = s.lp.rx ∧
    (ack kind tag body s).lp.gap = s.lp.gap ∧ (ack kind tag body s).lp.inBreak = s.lp.inBreak ∧
    (ack kind tag body s).lp.lowFor = s.lp.lowFor ∧ (ack kind tag body s).lp.badStop = s.lp.badStop ∧
    (ack kind tag body s).lp.sinceReset = s.lp.sinceReset ∧ (ack kind tag body s).lp.requests = s.lp.requests ∧
    (ack kind tag body s).lp.service = s.lp.service ∧ (ack kind tag body s).lp.abandoned = s.lp.abandoned ∧
    (ack kind tag body s).lp.flags = s.lp.flags ∧ (ack kind tag body s).lp.mask = s.lp.mask ∧
    (ack kind tag body s).pins = s.pins ∧ (ack kind tag body s).coming = s.coming ∧
    (ack kind tag body s).pending = s.pending := by
  simp [ack]

@[simp] theorem refuse_frame (kind tag : Byte) (reason : Reason) (s : State) :
    (refuse kind tag reason s).ps = s.ps ∧ (refuse kind tag reason s).seq = s.seq ∧
    (refuse kind tag reason s).tu = s.tu ∧ (refuse kind tag reason s).dl = s.dl ∧
    (refuse kind tag reason s).cv = s.cv ∧ (refuse kind tag reason s).fm = s.fm ∧
    (refuse kind tag reason s).tm = s.tm ∧ (refuse kind tag reason s).ck = s.ck ∧
    (refuse kind tag reason s).rq = s.rq ∧ (refuse kind tag reason s).lp.speed = s.lp.speed ∧
    (refuse kind tag reason s).lp.rx = s.lp.rx ∧ (refuse kind tag reason s).lp.gap = s.lp.gap ∧
    (refuse kind tag reason s).lp.inBreak = s.lp.inBreak ∧ (refuse kind tag reason s).lp.lowFor = s.lp.lowFor ∧
    (refuse kind tag reason s).lp.badStop = s.lp.badStop ∧
    (refuse kind tag reason s).lp.sinceReset = s.lp.sinceReset ∧
    (refuse kind tag reason s).lp.requests = s.lp.requests ∧ (refuse kind tag reason s).lp.service = s.lp.service ∧
    (refuse kind tag reason s).lp.abandoned = s.lp.abandoned ∧ (refuse kind tag reason s).lp.flags = s.lp.flags ∧
    (refuse kind tag reason s).lp.mask = s.lp.mask ∧ (refuse kind tag reason s).pins = s.pins ∧
    (refuse kind tag reason s).coming = s.coming ∧ (refuse kind tag reason s).pending = s.pending := by
  simp [refuse]

@[simp] theorem discardPartial_frame (s : State) :
    (discardPartial s).ps = s.ps ∧ (discardPartial s).seq = s.seq ∧ (discardPartial s).tu = s.tu ∧
    (discardPartial s).dl = s.dl ∧ (discardPartial s).cv = s.cv ∧ (discardPartial s).fm = s.fm ∧
    (discardPartial s).tm = s.tm ∧ (discardPartial s).ck = s.ck ∧ (discardPartial s).rq = s.rq ∧
    (discardPartial s).lp.speed = s.lp.speed ∧ (discardPartial s).lp.inBreak = s.lp.inBreak ∧
    (discardPartial s).lp.lowFor = s.lp.lowFor ∧ (discardPartial s).lp.badStop = s.lp.badStop ∧
    (discardPartial s).lp.sinceReset = s.lp.sinceReset ∧ (discardPartial s).lp.requests = s.lp.requests ∧
    (discardPartial s).lp.service = s.lp.service ∧ (discardPartial s).lp.abandoned = s.lp.abandoned ∧
    (discardPartial s).lp.reply = s.lp.reply ∧ (discardPartial s).lp.flags = s.lp.flags ∧
    (discardPartial s).lp.mask = s.lp.mask ∧ (discardPartial s).pins = s.pins ∧
    (discardPartial s).coming = s.coming ∧ (discardPartial s).pending = s.pending := by
  simp [discardPartial]

@[simp] theorem keepByte_frame (rx : Receiver) (s : State) :
    (keepByte rx s).ps = s.ps ∧ (keepByte rx s).seq = s.seq ∧ (keepByte rx s).tu = s.tu ∧ (keepByte rx s).dl = s.dl ∧
    (keepByte rx s).cv = s.cv ∧ (keepByte rx s).fm = s.fm ∧ (keepByte rx s).tm = s.tm ∧ (keepByte rx s).ck = s.ck ∧
    (keepByte rx s).rq = s.rq ∧ (keepByte rx s).lp.speed = s.lp.speed ∧ (keepByte rx s).lp.inBreak = s.lp.inBreak ∧
    (keepByte rx s).lp.lowFor = s.lp.lowFor ∧ (keepByte rx s).lp.badStop = s.lp.badStop ∧
    (keepByte rx s).lp.sinceReset = s.lp.sinceReset ∧ (keepByte rx s).lp.requests = s.lp.requests ∧
    (keepByte rx s).lp.service = s.lp.service ∧ (keepByte rx s).lp.abandoned = s.lp.abandoned ∧
    (keepByte rx s).lp.reply = s.lp.reply ∧ (keepByte rx s).lp.flags = s.lp.flags ∧
    (keepByte rx s).lp.mask = s.lp.mask ∧ (keepByte rx s).pins = s.pins ∧ (keepByte rx s).coming = s.coming ∧
    (keepByte rx s).pending = s.pending := by
  simp [keepByte]

@[simp] theorem linkError_frame (s : State) :
    (linkError s).ps = s.ps ∧ (linkError s).seq = s.seq ∧ (linkError s).tu = s.tu ∧ (linkError s).dl = s.dl ∧
    (linkError s).cv = s.cv ∧ (linkError s).fm = s.fm ∧ (linkError s).tm = s.tm ∧ (linkError s).ck = s.ck ∧
    (linkError s).rq = s.rq ∧ (linkError s).lp.speed = s.lp.speed ∧ (linkError s).lp.inBreak = s.lp.inBreak ∧
    (linkError s).lp.lowFor = s.lp.lowFor ∧ (linkError s).lp.badStop = s.lp.badStop ∧
    (linkError s).lp.sinceReset = s.lp.sinceReset ∧ (linkError s).lp.requests = s.lp.requests ∧
    (linkError s).lp.service = s.lp.service ∧ (linkError s).lp.abandoned = s.lp.abandoned ∧
    (linkError s).lp.reply = s.lp.reply ∧ (linkError s).lp.mask = s.lp.mask ∧ (linkError s).pins = s.pins ∧
    (linkError s).coming = s.coming ∧ (linkError s).pending = s.pending := by
  simp [linkError]

@[simp] theorem framingError_frame (s : State) :
    (framingError s).ps = s.ps ∧ (framingError s).seq = s.seq ∧ (framingError s).tu = s.tu ∧
    (framingError s).dl = s.dl ∧ (framingError s).cv = s.cv ∧ (framingError s).fm = s.fm ∧
    (framingError s).tm = s.tm ∧ (framingError s).ck = s.ck ∧ (framingError s).rq = s.rq ∧
    (framingError s).lp.speed = s.lp.speed ∧ (framingError s).lp.inBreak = s.lp.inBreak ∧
    (framingError s).lp.badStop = false ∧ (framingError s).lp.lowFor = s.lp.lowFor ∧
    (framingError s).lp.sinceReset = s.lp.sinceReset ∧ (framingError s).lp.requests = s.lp.requests ∧
    (framingError s).lp.service = s.lp.service ∧ (framingError s).lp.abandoned = s.lp.abandoned ∧
    (framingError s).lp.reply = s.lp.reply ∧ (framingError s).lp.mask = s.lp.mask ∧
    (framingError s).pins = s.pins ∧ (framingError s).coming = s.coming ∧
    (framingError s).pending = s.pending := by
  unfold framingError; split_ifs <;> simp

@[simp] theorem joinBuffer_frame (f : Frame) (s : State) :
    (joinBuffer f s).ps = s.ps ∧ (joinBuffer f s).seq = s.seq ∧ (joinBuffer f s).tu = s.tu ∧
    (joinBuffer f s).dl = s.dl ∧ (joinBuffer f s).cv = s.cv ∧ (joinBuffer f s).fm = s.fm ∧
    (joinBuffer f s).tm = s.tm ∧ (joinBuffer f s).ck = s.ck ∧ (joinBuffer f s).rq = s.rq ∧
    (joinBuffer f s).lp.speed = s.lp.speed ∧ (joinBuffer f s).lp.rx = s.lp.rx ∧ (joinBuffer f s).lp.gap = s.lp.gap ∧
    (joinBuffer f s).lp.inBreak = s.lp.inBreak ∧ (joinBuffer f s).lp.lowFor = s.lp.lowFor ∧
    (joinBuffer f s).lp.badStop = s.lp.badStop ∧
    (joinBuffer f s).lp.sinceReset = s.lp.sinceReset ∧
    (joinBuffer f s).lp.service = s.lp.service ∧ (joinBuffer f s).lp.abandoned = s.lp.abandoned ∧
    (joinBuffer f s).lp.reply = s.lp.reply ∧ (joinBuffer f s).lp.mask = s.lp.mask ∧
    (joinBuffer f s).pins = s.pins ∧ (joinBuffer f s).coming = s.coming ∧ (joinBuffer f s).pending = s.pending := by
  unfold joinBuffer; split_ifs <;> simp

@[simp] theorem completeFrame_frame (len kind tag : Byte) (taken : List Byte) (chk : Byte) (s : State) :
    (completeFrame len kind tag taken chk s).ps = s.ps ∧ (completeFrame len kind tag taken chk s).seq = s.seq ∧
    (completeFrame len kind tag taken chk s).tu = s.tu ∧ (completeFrame len kind tag taken chk s).dl = s.dl ∧
    (completeFrame len kind tag taken chk s).cv = s.cv ∧ (completeFrame len kind tag taken chk s).fm = s.fm ∧
    (completeFrame len kind tag taken chk s).tm = s.tm ∧ (completeFrame len kind tag taken chk s).ck = s.ck ∧
    (completeFrame len kind tag taken chk s).rq = s.rq ∧
    (completeFrame len kind tag taken chk s).lp.speed = s.lp.speed ∧
    (completeFrame len kind tag taken chk s).lp.inBreak = s.lp.inBreak ∧
    (completeFrame len kind tag taken chk s).lp.lowFor = s.lp.lowFor ∧
    (completeFrame len kind tag taken chk s).lp.badStop = s.lp.badStop ∧
    (completeFrame len kind tag taken chk s).lp.sinceReset = s.lp.sinceReset ∧
    (completeFrame len kind tag taken chk s).lp.service = s.lp.service ∧
    (completeFrame len kind tag taken chk s).lp.abandoned = s.lp.abandoned ∧
    (completeFrame len kind tag taken chk s).lp.reply = s.lp.reply ∧
    (completeFrame len kind tag taken chk s).lp.mask = s.lp.mask ∧
    (completeFrame len kind tag taken chk s).pins = s.pins ∧
    (completeFrame len kind tag taken chk s).coming = s.coming ∧
    (completeFrame len kind tag taken chk s).pending = s.pending := by
  unfold completeFrame; split_ifs <;> simp

@[simp] theorem judgeGap_frame (s : State) :
    (judgeGap s).ps = s.ps ∧ (judgeGap s).seq = s.seq ∧ (judgeGap s).tu = s.tu ∧ (judgeGap s).dl = s.dl ∧
    (judgeGap s).cv = s.cv ∧ (judgeGap s).fm = s.fm ∧ (judgeGap s).tm = s.tm ∧ (judgeGap s).ck = s.ck ∧
    (judgeGap s).rq = s.rq ∧ (judgeGap s).lp.speed = s.lp.speed ∧ (judgeGap s).lp.inBreak = s.lp.inBreak ∧
    (judgeGap s).lp.lowFor = s.lp.lowFor ∧ (judgeGap s).lp.badStop = s.lp.badStop ∧
    (judgeGap s).lp.sinceReset = s.lp.sinceReset ∧ (judgeGap s).lp.requests = s.lp.requests ∧
    (judgeGap s).lp.service = s.lp.service ∧ (judgeGap s).lp.abandoned = s.lp.abandoned ∧
    (judgeGap s).lp.reply = s.lp.reply ∧ (judgeGap s).lp.mask = s.lp.mask ∧ (judgeGap s).pins = s.pins ∧
    (judgeGap s).coming = s.coming ∧ (judgeGap s).pending = s.pending := by
  unfold judgeGap; split_ifs <;> simp

@[simp] theorem takeByte_frame (b : Byte) (s : State) :
    (takeByte b s).ps = s.ps ∧ (takeByte b s).seq = s.seq ∧ (takeByte b s).tu = s.tu ∧ (takeByte b s).dl = s.dl ∧
    (takeByte b s).cv = s.cv ∧ (takeByte b s).fm = s.fm ∧ (takeByte b s).tm = s.tm ∧ (takeByte b s).ck = s.ck ∧
    (takeByte b s).rq = s.rq ∧ (takeByte b s).lp.speed = s.lp.speed ∧ (takeByte b s).lp.inBreak = s.lp.inBreak ∧
    (takeByte b s).lp.lowFor = s.lp.lowFor ∧ (takeByte b s).lp.badStop = s.lp.badStop ∧
    (takeByte b s).lp.sinceReset = s.lp.sinceReset ∧ (takeByte b s).lp.service = s.lp.service ∧
    (takeByte b s).lp.abandoned = s.lp.abandoned ∧ (takeByte b s).lp.reply = s.lp.reply ∧
    (takeByte b s).lp.mask = s.lp.mask ∧ (takeByte b s).pins = s.pins ∧ (takeByte b s).coming = s.coming ∧
    (takeByte b s).pending = s.pending := by
  unfold takeByte; split <;> (try split_ifs) <;> simp

@[simp] theorem receiveByte_frame (b : Byte) (s : State) :
    (receiveByte b s).ps = s.ps ∧ (receiveByte b s).seq = s.seq ∧ (receiveByte b s).tu = s.tu ∧
    (receiveByte b s).dl = s.dl ∧ (receiveByte b s).cv = s.cv ∧ (receiveByte b s).fm = s.fm ∧
    (receiveByte b s).tm = s.tm ∧ (receiveByte b s).ck = s.ck ∧ (receiveByte b s).rq = s.rq ∧
    (receiveByte b s).lp.speed = s.lp.speed ∧ (receiveByte b s).lp.inBreak = s.lp.inBreak ∧
    (receiveByte b s).lp.lowFor = s.lp.lowFor ∧ (receiveByte b s).lp.badStop = s.lp.badStop ∧
    (receiveByte b s).lp.sinceReset = s.lp.sinceReset ∧ (receiveByte b s).lp.service = s.lp.service ∧
    (receiveByte b s).lp.abandoned = s.lp.abandoned ∧ (receiveByte b s).lp.reply = s.lp.reply ∧
    (receiveByte b s).lp.mask = s.lp.mask ∧ (receiveByte b s).pins = s.pins ∧ (receiveByte b s).coming = s.coming ∧
    (receiveByte b s).pending = s.pending := by
  unfold receiveByte; split_ifs <;> simp

@[simp] theorem dropOldest_frame (s : State) :
    (dropOldest s).ps = s.ps ∧ (dropOldest s).seq = s.seq ∧ (dropOldest s).tu = s.tu ∧ (dropOldest s).dl = s.dl ∧
    (dropOldest s).cv = s.cv ∧ (dropOldest s).fm = s.fm ∧ (dropOldest s).tm = s.tm ∧ (dropOldest s).ck = s.ck ∧
    (dropOldest s).rq.held = s.rq.held ∧ (dropOldest s).rq.policy = s.rq.policy ∧
    (dropOldest s).rq.level = s.rq.level ∧ (dropOldest s).lp.speed = s.lp.speed ∧ (dropOldest s).lp.rx = s.lp.rx ∧
    (dropOldest s).lp.gap = s.lp.gap ∧ (dropOldest s).lp.inBreak = s.lp.inBreak ∧
    (dropOldest s).lp.lowFor = s.lp.lowFor ∧ (dropOldest s).lp.badStop = s.lp.badStop ∧
    (dropOldest s).lp.sinceReset = s.lp.sinceReset ∧ (dropOldest s).lp.requests = s.lp.requests ∧
    (dropOldest s).lp.service = s.lp.service ∧ (dropOldest s).lp.abandoned = s.lp.abandoned ∧
    (dropOldest s).lp.reply = s.lp.reply ∧ (dropOldest s).lp.mask = s.lp.mask ∧ (dropOldest s).pins = s.pins ∧
    (dropOldest s).coming = s.coming ∧ (dropOldest s).pending = s.pending := by
  simp [dropOldest]

@[simp] theorem pushRecord_frame (r : Record) (s : State) :
    (pushRecord r s).ps = s.ps ∧ (pushRecord r s).seq = s.seq ∧ (pushRecord r s).tu = s.tu ∧
    (pushRecord r s).dl = s.dl ∧ (pushRecord r s).cv = s.cv ∧ (pushRecord r s).fm = s.fm ∧
    (pushRecord r s).tm = s.tm ∧ (pushRecord r s).ck = s.ck ∧ (pushRecord r s).rq.held = s.rq.held ∧
    (pushRecord r s).rq.policy = s.rq.policy ∧ (pushRecord r s).rq.level = s.rq.level ∧
    (pushRecord r s).lp.speed = s.lp.speed ∧ (pushRecord r s).lp.rx = s.lp.rx ∧ (pushRecord r s).lp.gap = s.lp.gap ∧
    (pushRecord r s).lp.inBreak = s.lp.inBreak ∧ (pushRecord r s).lp.lowFor = s.lp.lowFor ∧
    (pushRecord r s).lp.badStop = s.lp.badStop ∧
    (pushRecord r s).lp.sinceReset = s.lp.sinceReset ∧
    (pushRecord r s).lp.requests = s.lp.requests ∧ (pushRecord r s).lp.service = s.lp.service ∧
    (pushRecord r s).lp.abandoned = s.lp.abandoned ∧ (pushRecord r s).lp.reply = s.lp.reply ∧
    (pushRecord r s).lp.mask = s.lp.mask ∧ (pushRecord r s).pins = s.pins ∧ (pushRecord r s).coming = s.coming ∧
    (pushRecord r s).pending = s.pending := by
  unfold pushRecord; split_ifs <;> simp

@[simp] theorem levelTest_frame (n : Nat) (s : State) :
    (levelTest n s).ps = s.ps ∧ (levelTest n s).seq = s.seq ∧ (levelTest n s).tu = s.tu ∧ (levelTest n s).dl = s.dl ∧
    (levelTest n s).cv = s.cv ∧ (levelTest n s).fm = s.fm ∧ (levelTest n s).tm = s.tm ∧ (levelTest n s).ck = s.ck ∧
    (levelTest n s).rq = s.rq ∧ (levelTest n s).lp.speed = s.lp.speed ∧ (levelTest n s).lp.rx = s.lp.rx ∧
    (levelTest n s).lp.gap = s.lp.gap ∧ (levelTest n s).lp.inBreak = s.lp.inBreak ∧
    (levelTest n s).lp.lowFor = s.lp.lowFor ∧ (levelTest n s).lp.badStop = s.lp.badStop ∧
    (levelTest n s).lp.sinceReset = s.lp.sinceReset ∧ (levelTest n s).lp.requests = s.lp.requests ∧
    (levelTest n s).lp.service = s.lp.service ∧ (levelTest n s).lp.abandoned = s.lp.abandoned ∧
    (levelTest n s).lp.reply = s.lp.reply ∧ (levelTest n s).lp.mask = s.lp.mask ∧ (levelTest n s).pins = s.pins ∧
    (levelTest n s).coming = s.coming ∧ (levelTest n s).pending = s.pending := by
  unfold levelTest; split_ifs <;> simp

@[simp] theorem absorbA_frame (v : Word16) (s : State) :
    (absorbA v s).ps = s.ps ∧ (absorbA v s).seq = s.seq ∧ (absorbA v s).tu = s.tu ∧ (absorbA v s).dl = s.dl ∧
    (absorbA v s).cv = s.cv ∧ (absorbA v s).fm = s.fm ∧ (absorbA v s).tm = s.tm ∧ (absorbA v s).ck.b = s.ck.b ∧
    (absorbA v s).ck.job = s.ck.job ∧ (absorbA v s).ck.entryCount = s.ck.entryCount ∧
    (absorbA v s).ck.absorbDue = s.ck.absorbDue ∧ (absorbA v s).rq = s.rq ∧ (absorbA v s).lp = s.lp ∧
    (absorbA v s).pins = s.pins ∧ (absorbA v s).coming = s.coming ∧ (absorbA v s).pending = s.pending := by
  simp [absorbA]

@[simp] theorem appendSample_frame (r : SampleRecord) (s : State) :
    (appendSample r s).ps = s.ps ∧ (appendSample r s).seq.state = s.seq.state ∧
    (appendSample r s).seq.stepIndex = s.seq.stepIndex ∧ (appendSample r s).seq.passNumber = s.seq.passNumber ∧
    (appendSample r s).seq.passesStarted = s.seq.passesStarted ∧
    (appendSample r s).seq.missedTicks = s.seq.missedTicks ∧ (appendSample r s).seq.passClock = s.seq.passClock ∧
    (appendSample r s).seq.pauseMark = s.seq.pauseMark ∧ (appendSample r s).seq.endCause = s.seq.endCause ∧
    (appendSample r s).seq.ctx = s.seq.ctx ∧ (appendSample r s).seq.settle = s.seq.settle ∧
    (appendSample r s).seq.stepTimer = s.seq.stepTimer ∧ (appendSample r s).seq.pacer = s.seq.pacer ∧
    (appendSample r s).tu = s.tu ∧ (appendSample r s).dl = s.dl ∧ (appendSample r s).cv = s.cv ∧
    (appendSample r s).fm = s.fm ∧ (appendSample r s).tm = s.tm ∧ (appendSample r s).ck.b = s.ck.b ∧
    (appendSample r s).ck.job = s.ck.job ∧ (appendSample r s).ck.entryCount = s.ck.entryCount ∧
    (appendSample r s).ck.absorbDue = s.ck.absorbDue ∧ (appendSample r s).rq.held = s.rq.held ∧
    (appendSample r s).rq.policy = s.rq.policy ∧ (appendSample r s).rq.level = s.rq.level ∧
    (appendSample r s).lp.speed = s.lp.speed ∧ (appendSample r s).lp.rx = s.lp.rx ∧
    (appendSample r s).lp.gap = s.lp.gap ∧ (appendSample r s).lp.inBreak = s.lp.inBreak ∧
    (appendSample r s).lp.lowFor = s.lp.lowFor ∧ (appendSample r s).lp.badStop = s.lp.badStop ∧
    (appendSample r s).lp.sinceReset = s.lp.sinceReset ∧ (appendSample r s).lp.requests = s.lp.requests ∧
    (appendSample r s).lp.service = s.lp.service ∧ (appendSample r s).lp.abandoned = s.lp.abandoned ∧
    (appendSample r s).lp.reply = s.lp.reply ∧ (appendSample r s).lp.mask = s.lp.mask ∧
    (appendSample r s).pins = s.pins ∧ (appendSample r s).coming = s.coming ∧
    (appendSample r s).pending = s.pending := by
  simp [appendSample]

@[simp] theorem appendMarker_frame (m : MarkerStatus) (s : State) :
    (appendMarker m s).ps = s.ps ∧ (appendMarker m s).seq = s.seq ∧ (appendMarker m s).tu = s.tu ∧
    (appendMarker m s).dl = s.dl ∧ (appendMarker m s).cv = s.cv ∧ (appendMarker m s).fm = s.fm ∧
    (appendMarker m s).tm = s.tm ∧ (appendMarker m s).ck = s.ck ∧ (appendMarker m s).rq.held = s.rq.held ∧
    (appendMarker m s).rq.policy = s.rq.policy ∧ (appendMarker m s).rq.level = s.rq.level ∧
    (appendMarker m s).lp.speed = s.lp.speed ∧ (appendMarker m s).lp.rx = s.lp.rx ∧
    (appendMarker m s).lp.gap = s.lp.gap ∧ (appendMarker m s).lp.inBreak = s.lp.inBreak ∧
    (appendMarker m s).lp.lowFor = s.lp.lowFor ∧ (appendMarker m s).lp.badStop = s.lp.badStop ∧
    (appendMarker m s).lp.sinceReset = s.lp.sinceReset ∧ (appendMarker m s).lp.requests = s.lp.requests ∧
    (appendMarker m s).lp.service = s.lp.service ∧ (appendMarker m s).lp.abandoned = s.lp.abandoned ∧
    (appendMarker m s).lp.reply = s.lp.reply ∧ (appendMarker m s).lp.mask = s.lp.mask ∧
    (appendMarker m s).pins = s.pins ∧ (appendMarker m s).coming = s.coming ∧
    (appendMarker m s).pending = s.pending := by
  simp [appendMarker]

@[simp] theorem boundary_frame (s : State) :
    (boundary s).ps = s.ps ∧ (boundary s).seq = s.seq ∧ (boundary s).tu = s.tu ∧ (boundary s).dl = s.dl ∧
    (boundary s).cv = s.cv ∧ (boundary s).fm.subst = s.fm.subst ∧ (boundary s).fm.zones = s.fm.zones ∧
    (boundary s).fm.heldByte = s.fm.heldByte ∧ (boundary s).fm.heldStamp = s.fm.heldStamp ∧ (boundary s).ck = s.ck ∧
    (boundary s).rq = s.rq ∧ (boundary s).lp = s.lp ∧ (boundary s).pins = s.pins ∧ (boundary s).coming = s.coming ∧
    (boundary s).pending = s.pending := by
  simp [boundary, Formatter.install]

@[simp] theorem claimConverter_frame (k : Claimant) (c : Fin 16) (r : Range) (a : Averaging) (s : State) :
    (claimConverter k c r a s).ps = s.ps ∧ (claimConverter k c r a s).seq = s.seq ∧
    (claimConverter k c r a s).tu = s.tu ∧ (claimConverter k c r a s).dl = s.dl ∧
    (claimConverter k c r a s).fm = s.fm ∧ (claimConverter k c r a s).tm = s.tm ∧
    (claimConverter k c r a s).ck = s.ck ∧ (claimConverter k c r a s).rq = s.rq ∧
    (claimConverter k c r a s).lp = s.lp ∧ (claimConverter k c r a s).pins = s.pins ∧
    (claimConverter k c r a s).coming = s.coming ∧ (claimConverter k c r a s).pending = s.pending := by
  simp [claimConverter]

@[simp] theorem abandonClaim_frame (k : Claimant) (s : State) :
    (abandonClaim k s).ps = s.ps ∧ (abandonClaim k s).seq = s.seq ∧ (abandonClaim k s).tu = s.tu ∧
    (abandonClaim k s).dl = s.dl ∧ (abandonClaim k s).cv.mux = s.cv.mux ∧ (abandonClaim k s).fm = s.fm ∧
    (abandonClaim k s).tm = s.tm ∧ (abandonClaim k s).ck = s.ck ∧ (abandonClaim k s).rq = s.rq ∧
    (abandonClaim k s).lp = s.lp ∧ (abandonClaim k s).pins = s.pins ∧ (abandonClaim k s).coming = s.coming ∧
    (abandonClaim k s).pending = s.pending := by
  unfold abandonClaim; split <;> (try split_ifs) <;> simp

@[simp] theorem stopTriggers_frame (s : State) :
    (stopTriggers s).ps = s.ps ∧ (stopTriggers s).seq = s.seq ∧ (stopTriggers s).tu.cfg = s.tu.cfg ∧
    (stopTriggers s).tu.lineLevel = s.tu.lineLevel ∧ (stopTriggers s).tu.prevMasked = s.tu.prevMasked ∧
    (stopTriggers s).tu.prevMatch = s.tu.prevMatch ∧ (stopTriggers s).tu.seenFalse = s.tu.seenFalse ∧
    (stopTriggers s).dl = s.dl ∧ (stopTriggers s).cv.mux = s.cv.mux ∧ (stopTriggers s).fm = s.fm ∧
    (stopTriggers s).tm = s.tm ∧ (stopTriggers s).ck = s.ck ∧ (stopTriggers s).rq = s.rq ∧
    (stopTriggers s).lp = s.lp ∧ (stopTriggers s).pins = s.pins ∧ (stopTriggers s).coming = s.coming ∧
    (stopTriggers s).pending = s.pending := by
  simp [stopTriggers]

@[simp] theorem haltSequencer_frame (c : EndCause) (s : State) :
    (haltSequencer c s).ps = s.ps ∧ (haltSequencer c s).seq.stepIndex = s.seq.stepIndex ∧
    (haltSequencer c s).seq.passNumber = s.seq.passNumber ∧
    (haltSequencer c s).seq.passesStarted = s.seq.passesStarted ∧
    (haltSequencer c s).seq.sampleCount = s.seq.sampleCount ∧
    (haltSequencer c s).seq.missedTicks = s.seq.missedTicks ∧ (haltSequencer c s).seq.passClock = s.seq.passClock ∧
    (haltSequencer c s).seq.ctx = s.seq.ctx ∧ (haltSequencer c s).tu = s.tu ∧ (haltSequencer c s).dl = s.dl ∧
    (haltSequencer c s).cv = s.cv ∧ (haltSequencer c s).fm = s.fm ∧ (haltSequencer c s).tm = s.tm ∧
    (haltSequencer c s).ck = s.ck ∧ (haltSequencer c s).rq = s.rq ∧ (haltSequencer c s).lp = s.lp ∧
    (haltSequencer c s).pins = s.pins ∧ (haltSequencer c s).coming = s.coming ∧
    (haltSequencer c s).pending = s.pending := by
  simp [haltSequencer]

@[simp] theorem writeRest_frame (s : State) :
    (writeRest s).ps = s.ps ∧ (writeRest s).seq = s.seq ∧ (writeRest s).tu = s.tu ∧
    (writeRest s).dl.rest = s.dl.rest ∧ (writeRest s).cv = s.cv ∧ (writeRest s).fm = s.fm ∧ (writeRest s).tm = s.tm ∧
    (writeRest s).ck = s.ck ∧ (writeRest s).rq = s.rq ∧ (writeRest s).lp = s.lp ∧ (writeRest s).pins = s.pins ∧
    (writeRest s).coming = s.coming ∧ (writeRest s).pending = s.pending := by
  simp [writeRest]

@[simp] theorem enterStopped_frame (c : EndCause) (s : State) :
    (enterStopped c s).ps = s.ps ∧ (enterStopped c s).seq.stepIndex = s.seq.stepIndex ∧
    (enterStopped c s).seq.passNumber = s.seq.passNumber ∧
    (enterStopped c s).seq.passesStarted = s.seq.passesStarted ∧
    (enterStopped c s).seq.sampleCount = s.seq.sampleCount ∧ (enterStopped c s).seq.missedTicks = s.seq.missedTicks ∧
    (enterStopped c s).seq.passClock = s.seq.passClock ∧ (enterStopped c s).seq.ctx = s.seq.ctx ∧
    (enterStopped c s).tu.cfg = s.tu.cfg ∧ (enterStopped c s).tu.lineLevel = s.tu.lineLevel ∧
    (enterStopped c s).tu.prevMasked = s.tu.prevMasked ∧ (enterStopped c s).tu.prevMatch = s.tu.prevMatch ∧
    (enterStopped c s).tu.seenFalse = s.tu.seenFalse ∧ (enterStopped c s).dl.rest = s.dl.rest ∧
    (enterStopped c s).cv.mux = s.cv.mux ∧ (enterStopped c s).fm.subst = s.fm.subst ∧
    (enterStopped c s).fm.zones = s.fm.zones ∧ (enterStopped c s).fm.heldByte = s.fm.heldByte ∧
    (enterStopped c s).fm.heldStamp = s.fm.heldStamp ∧ (enterStopped c s).ck = s.ck ∧ (enterStopped c s).rq = s.rq ∧
    (enterStopped c s).lp.speed = s.lp.speed ∧ (enterStopped c s).lp.rx = s.lp.rx ∧
    (enterStopped c s).lp.gap = s.lp.gap ∧ (enterStopped c s).lp.inBreak = s.lp.inBreak ∧
    (enterStopped c s).lp.lowFor = s.lp.lowFor ∧ (enterStopped c s).lp.badStop = s.lp.badStop ∧
    (enterStopped c s).lp.sinceReset = s.lp.sinceReset ∧ (enterStopped c s).lp.requests = s.lp.requests ∧
    (enterStopped c s).lp.service = s.lp.service ∧ (enterStopped c s).lp.abandoned = s.lp.abandoned ∧
    (enterStopped c s).lp.reply = s.lp.reply ∧ (enterStopped c s).lp.mask = s.lp.mask ∧
    (enterStopped c s).pins = s.pins ∧ (enterStopped c s).coming = s.coming ∧
    (enterStopped c s).pending = s.pending := by
  unfold enterStopped; simp only []; split_ifs <;> simp

@[simp] theorem abandonStep_frame (s : State) :
    (abandonStep s).ps = s.ps ∧ (abandonStep s).seq.state = s.seq.state ∧
    (abandonStep s).seq.stepIndex = s.seq.stepIndex ∧ (abandonStep s).seq.passNumber = s.seq.passNumber ∧
    (abandonStep s).seq.passesStarted = s.seq.passesStarted ∧ (abandonStep s).seq.sampleCount = s.seq.sampleCount ∧
    (abandonStep s).seq.missedTicks = s.seq.missedTicks ∧ (abandonStep s).seq.passClock = s.seq.passClock ∧
    (abandonStep s).seq.pauseMark = s.seq.pauseMark ∧ (abandonStep s).seq.endCause = s.seq.endCause ∧
    (abandonStep s).seq.ctx = s.seq.ctx ∧ (abandonStep s).seq.stepTimer = s.seq.stepTimer ∧
    (abandonStep s).seq.pacer = s.seq.pacer ∧ (abandonStep s).tu = s.tu ∧ (abandonStep s).dl = s.dl ∧
    (abandonStep s).cv.mux = s.cv.mux ∧ (abandonStep s).fm = s.fm ∧ (abandonStep s).tm = s.tm ∧
    (abandonStep s).ck = s.ck ∧ (abandonStep s).rq = s.rq ∧ (abandonStep s).lp = s.lp ∧
    (abandonStep s).pins = s.pins ∧ (abandonStep s).coming = s.coming ∧ (abandonStep s).pending = s.pending := by
  simp [abandonStep]

@[simp] theorem discardHeld_frame (s : State) :
    (discardHeld s).ps = s.ps ∧ (discardHeld s).seq = s.seq ∧ (discardHeld s).tu = s.tu ∧ (discardHeld s).dl = s.dl ∧
    (discardHeld s).cv = s.cv ∧ (discardHeld s).fm = s.fm ∧ (discardHeld s).tm = s.tm ∧ (discardHeld s).ck = s.ck ∧
    (discardHeld s).rq.records = s.rq.records ∧ (discardHeld s).rq.lossMark = s.rq.lossMark ∧
    (discardHeld s).rq.policy = s.rq.policy ∧ (discardHeld s).rq.level = s.rq.level ∧ (discardHeld s).lp = s.lp ∧
    (discardHeld s).pins = s.pins ∧ (discardHeld s).coming = s.coming ∧ (discardHeld s).pending = s.pending := by
  simp [discardHeld]

@[simp] theorem runStop_frame (c : EndCause) (s : State) :
    (runStop c s).ps = s.ps ∧ (runStop c s).seq.stepIndex = s.seq.stepIndex ∧
    (runStop c s).seq.passNumber = s.seq.passNumber ∧ (runStop c s).seq.passesStarted = s.seq.passesStarted ∧
    (runStop c s).seq.sampleCount = s.seq.sampleCount ∧ (runStop c s).seq.missedTicks = s.seq.missedTicks ∧
    (runStop c s).seq.passClock = s.seq.passClock ∧ (runStop c s).seq.ctx = s.seq.ctx ∧
    (runStop c s).tu.cfg = s.tu.cfg ∧ (runStop c s).tu.lineLevel = s.tu.lineLevel ∧
    (runStop c s).tu.prevMasked = s.tu.prevMasked ∧ (runStop c s).tu.prevMatch = s.tu.prevMatch ∧
    (runStop c s).tu.seenFalse = s.tu.seenFalse ∧ (runStop c s).dl.rest = s.dl.rest ∧
    (runStop c s).cv.mux = s.cv.mux ∧ (runStop c s).fm.subst = s.fm.subst ∧ (runStop c s).fm.zones = s.fm.zones ∧
    (runStop c s).fm.heldByte = s.fm.heldByte ∧ (runStop c s).fm.heldStamp = s.fm.heldStamp ∧
    (runStop c s).ck = s.ck ∧ (runStop c s).rq.policy = s.rq.policy ∧ (runStop c s).rq.level = s.rq.level ∧
    (runStop c s).lp.speed = s.lp.speed ∧ (runStop c s).lp.rx = s.lp.rx ∧ (runStop c s).lp.gap = s.lp.gap ∧
    (runStop c s).lp.inBreak = s.lp.inBreak ∧ (runStop c s).lp.lowFor = s.lp.lowFor ∧
    (runStop c s).lp.badStop = s.lp.badStop ∧
    (runStop c s).lp.sinceReset = s.lp.sinceReset ∧
    (runStop c s).lp.requests = s.lp.requests ∧ (runStop c s).lp.service = s.lp.service ∧
    (runStop c s).lp.abandoned = s.lp.abandoned ∧ (runStop c s).lp.reply = s.lp.reply ∧
    (runStop c s).lp.mask = s.lp.mask ∧ (runStop c s).pins = s.pins ∧ (runStop c s).coming = s.coming ∧
    (runStop c s).pending = s.pending := by
  unfold runStop; simp only []; split_ifs <;> simp

@[simp] theorem writePattern_frame (s : State) :
    (writePattern s).ps = s.ps ∧ (writePattern s).seq = s.seq ∧ (writePattern s).tu = s.tu ∧
    (writePattern s).dl.rest = s.dl.rest ∧ (writePattern s).cv = s.cv ∧ (writePattern s).fm = s.fm ∧
    (writePattern s).tm = s.tm ∧ (writePattern s).ck = s.ck ∧ (writePattern s).rq = s.rq ∧
    (writePattern s).lp = s.lp ∧ (writePattern s).pins = s.pins ∧ (writePattern s).coming = s.coming ∧
    (writePattern s).pending = s.pending := by
  unfold writePattern; split <;> simp

@[simp] theorem stepBegin_frame (s : State) :
    (stepBegin s).ps = s.ps ∧ (stepBegin s).seq.stepIndex = s.seq.stepIndex ∧
    (stepBegin s).seq.passNumber = s.seq.passNumber ∧ (stepBegin s).seq.passesStarted = s.seq.passesStarted ∧
    (stepBegin s).seq.sampleCount = s.seq.sampleCount ∧ (stepBegin s).seq.missedTicks = s.seq.missedTicks ∧
    (stepBegin s).seq.passClock = s.seq.passClock ∧ (stepBegin s).seq.pauseMark = s.seq.pauseMark ∧
    (stepBegin s).seq.endCause = s.seq.endCause ∧ (stepBegin s).seq.ctx = s.seq.ctx ∧
    (stepBegin s).seq.pacer = s.seq.pacer ∧ (stepBegin s).tu = s.tu ∧ (stepBegin s).dl.rest = s.dl.rest ∧
    (stepBegin s).cv = s.cv ∧ (stepBegin s).fm = s.fm ∧ (stepBegin s).tm = s.tm ∧ (stepBegin s).ck = s.ck ∧
    (stepBegin s).rq = s.rq ∧ (stepBegin s).lp.speed = s.lp.speed ∧ (stepBegin s).lp.rx = s.lp.rx ∧
    (stepBegin s).lp.gap = s.lp.gap ∧ (stepBegin s).lp.inBreak = s.lp.inBreak ∧
    (stepBegin s).lp.lowFor = s.lp.lowFor ∧ (stepBegin s).lp.badStop = s.lp.badStop ∧
    (stepBegin s).lp.sinceReset = s.lp.sinceReset ∧ (stepBegin s).lp.requests = s.lp.requests ∧
    (stepBegin s).lp.service = s.lp.service ∧ (stepBegin s).lp.abandoned = s.lp.abandoned ∧
    (stepBegin s).lp.reply = s.lp.reply ∧ (stepBegin s).lp.mask = s.lp.mask ∧ (stepBegin s).pins = s.pins ∧
    (stepBegin s).coming = s.coming ∧ (stepBegin s).pending = s.pending := by
  unfold stepBegin; simp only []; split_ifs <;> simp

@[simp] theorem nextStep_frame (s : State) :
    (nextStep s).ps = s.ps ∧ (nextStep s).seq.passNumber = s.seq.passNumber ∧
    (nextStep s).seq.passesStarted = s.seq.passesStarted ∧ (nextStep s).seq.sampleCount = s.seq.sampleCount ∧
    (nextStep s).seq.missedTicks = s.seq.missedTicks ∧ (nextStep s).seq.passClock = s.seq.passClock ∧
    (nextStep s).seq.endCause = s.seq.endCause ∧ (nextStep s).seq.ctx = s.seq.ctx ∧
    (nextStep s).seq.pacer = s.seq.pacer ∧ (nextStep s).tu = s.tu ∧ (nextStep s).dl.rest = s.dl.rest ∧
    (nextStep s).cv = s.cv ∧ (nextStep s).fm = s.fm ∧ (nextStep s).tm = s.tm ∧ (nextStep s).ck = s.ck ∧
    (nextStep s).rq = s.rq ∧ (nextStep s).lp.speed = s.lp.speed ∧ (nextStep s).lp.rx = s.lp.rx ∧
    (nextStep s).lp.gap = s.lp.gap ∧ (nextStep s).lp.inBreak = s.lp.inBreak ∧
    (nextStep s).lp.lowFor = s.lp.lowFor ∧ (nextStep s).lp.badStop = s.lp.badStop ∧
    (nextStep s).lp.sinceReset = s.lp.sinceReset ∧
    (nextStep s).lp.requests = s.lp.requests ∧ (nextStep s).lp.service = s.lp.service ∧
    (nextStep s).lp.abandoned = s.lp.abandoned ∧ (nextStep s).lp.reply = s.lp.reply ∧
    (nextStep s).lp.mask = s.lp.mask ∧ (nextStep s).pins = s.pins ∧ (nextStep s).coming = s.coming ∧
    (nextStep s).pending = s.pending := by
  simp [nextStep]

@[simp] theorem passStart_frame (s : State) :
    (passStart s).ps = s.ps ∧ (passStart s).seq.endCause = s.seq.endCause ∧ (passStart s).seq.ctx = s.seq.ctx ∧
    (passStart s).seq.pacer = s.seq.pacer ∧ (passStart s).tu = s.tu ∧ (passStart s).dl.rest = s.dl.rest ∧
    (passStart s).cv = s.cv ∧ (passStart s).fm = s.fm ∧ (passStart s).tm = s.tm ∧ (passStart s).ck.b = s.ck.b ∧
    (passStart s).ck.job = s.ck.job ∧ (passStart s).ck.entryCount = s.ck.entryCount ∧
    (passStart s).ck.absorbDue = s.ck.absorbDue ∧ (passStart s).rq = s.rq ∧ (passStart s).lp.speed = s.lp.speed ∧
    (passStart s).lp.rx = s.lp.rx ∧ (passStart s).lp.gap = s.lp.gap ∧ (passStart s).lp.inBreak = s.lp.inBreak ∧
    (passStart s).lp.lowFor = s.lp.lowFor ∧ (passStart s).lp.badStop = s.lp.badStop ∧
    (passStart s).lp.sinceReset = s.lp.sinceReset ∧ (passStart s).lp.requests = s.lp.requests ∧
    (passStart s).lp.service = s.lp.service ∧ (passStart s).lp.abandoned = s.lp.abandoned ∧
    (passStart s).lp.reply = s.lp.reply ∧ (passStart s).lp.mask = s.lp.mask ∧ (passStart s).pins = s.pins ∧
    (passStart s).coming = s.coming ∧ (passStart s).pending = s.pending := by
  simp [passStart]

@[simp] theorem startTrigger_frame (s : State) :
    (startTrigger s).ps = s.ps ∧ (startTrigger s).seq.endCause = s.seq.endCause ∧
    (startTrigger s).seq.ctx = s.seq.ctx ∧ (startTrigger s).tu.cfg = s.tu.cfg ∧
    (startTrigger s).tu.lineWatching = s.tu.lineWatching ∧ (startTrigger s).tu.lineLevel = s.tu.lineLevel ∧
    (startTrigger s).tu.lineDue = s.tu.lineDue ∧ (startTrigger s).tu.cmpWatching = s.tu.cmpWatching ∧
    (startTrigger s).tu.prevMasked = s.tu.prevMasked ∧ (startTrigger s).tu.prevMatch = s.tu.prevMatch ∧
    (startTrigger s).tu.monitor = s.tu.monitor ∧ (startTrigger s).tu.monitorTimer = s.tu.monitorTimer ∧
    (startTrigger s).tu.seenFalse = s.tu.seenFalse ∧ (startTrigger s).dl.rest = s.dl.rest ∧
    (startTrigger s).cv = s.cv ∧ (startTrigger s).fm = s.fm ∧ (startTrigger s).tm = s.tm ∧
    (startTrigger s).ck.b = s.ck.b ∧ (startTrigger s).ck.job = s.ck.job ∧
    (startTrigger s).ck.entryCount = s.ck.entryCount ∧ (startTrigger s).ck.absorbDue = s.ck.absorbDue ∧
    (startTrigger s).rq = s.rq ∧ (startTrigger s).lp.speed = s.lp.speed ∧ (startTrigger s).lp.rx = s.lp.rx ∧
    (startTrigger s).lp.gap = s.lp.gap ∧ (startTrigger s).lp.inBreak = s.lp.inBreak ∧
    (startTrigger s).lp.lowFor = s.lp.lowFor ∧ (startTrigger s).lp.badStop = s.lp.badStop ∧
    (startTrigger s).lp.sinceReset = s.lp.sinceReset ∧ (startTrigger s).lp.requests = s.lp.requests ∧
    (startTrigger s).lp.service = s.lp.service ∧ (startTrigger s).lp.abandoned = s.lp.abandoned ∧
    (startTrigger s).lp.reply = s.lp.reply ∧ (startTrigger s).lp.mask = s.lp.mask ∧ (startTrigger s).pins = s.pins ∧
    (startTrigger s).coming = s.coming ∧ (startTrigger s).pending = s.pending := by
  simp [startTrigger]

@[simp] theorem passContinue_frame (b : Bool) (s : State) :
    (passContinue b s).ps = s.ps ∧ (passContinue b s).seq.ctx = s.seq.ctx ∧ (passContinue b s).tu.cfg = s.tu.cfg ∧
    (passContinue b s).tu.lineLevel = s.tu.lineLevel ∧ (passContinue b s).tu.prevMasked = s.tu.prevMasked ∧
    (passContinue b s).tu.prevMatch = s.tu.prevMatch ∧ (passContinue b s).tu.seenFalse = s.tu.seenFalse ∧
    (passContinue b s).dl.rest = s.dl.rest ∧ (passContinue b s).cv.mux = s.cv.mux ∧
    (passContinue b s).fm.subst = s.fm.subst ∧ (passContinue b s).fm.zones = s.fm.zones ∧
    (passContinue b s).fm.heldByte = s.fm.heldByte ∧ (passContinue b s).fm.heldStamp = s.fm.heldStamp ∧
    (passContinue b s).ck.b = s.ck.b ∧ (passContinue b s).ck.job = s.ck.job ∧
    (passContinue b s).ck.entryCount = s.ck.entryCount ∧ (passContinue b s).ck.absorbDue = s.ck.absorbDue ∧
    (passContinue b s).rq = s.rq ∧ (passContinue b s).lp.speed = s.lp.speed ∧ (passContinue b s).lp.rx = s.lp.rx ∧
    (passContinue b s).lp.gap = s.lp.gap ∧ (passContinue b s).lp.inBreak = s.lp.inBreak ∧
    (passContinue b s).lp.lowFor = s.lp.lowFor ∧ (passContinue b s).lp.badStop = s.lp.badStop ∧
    (passContinue b s).lp.sinceReset = s.lp.sinceReset ∧ (passContinue b s).lp.requests = s.lp.requests ∧
    (passContinue b s).lp.service = s.lp.service ∧ (passContinue b s).lp.abandoned = s.lp.abandoned ∧
    (passContinue b s).lp.reply = s.lp.reply ∧ (passContinue b s).lp.mask = s.lp.mask ∧
    (passContinue b s).pins = s.pins ∧ (passContinue b s).coming = s.coming ∧
    (passContinue b s).pending = s.pending := by
  unfold passContinue; split_ifs <;> simp

@[simp] theorem passEnd_frame (b : Bool) (s : State) :
    (passEnd b s).ps = s.ps ∧ (passEnd b s).seq.ctx = s.seq.ctx ∧ (passEnd b s).tu.cfg = s.tu.cfg ∧
    (passEnd b s).tu.lineLevel = s.tu.lineLevel ∧ (passEnd b s).tu.prevMasked = s.tu.prevMasked ∧
    (passEnd b s).tu.prevMatch = s.tu.prevMatch ∧ (passEnd b s).tu.seenFalse = s.tu.seenFalse ∧
    (passEnd b s).dl.rest = s.dl.rest ∧ (passEnd b s).cv.mux = s.cv.mux ∧ (passEnd b s).fm.subst = s.fm.subst ∧
    (passEnd b s).fm.zones = s.fm.zones ∧ (passEnd b s).fm.heldByte = s.fm.heldByte ∧
    (passEnd b s).fm.heldStamp = s.fm.heldStamp ∧ (passEnd b s).ck.b = s.ck.b ∧ (passEnd b s).ck.job = s.ck.job ∧
    (passEnd b s).ck.entryCount = s.ck.entryCount ∧ (passEnd b s).ck.absorbDue = s.ck.absorbDue ∧
    (passEnd b s).rq.held = s.rq.held ∧ (passEnd b s).rq.policy = s.rq.policy ∧ (passEnd b s).rq.level = s.rq.level ∧
    (passEnd b s).lp.speed = s.lp.speed ∧ (passEnd b s).lp.rx = s.lp.rx ∧ (passEnd b s).lp.gap = s.lp.gap ∧
    (passEnd b s).lp.inBreak = s.lp.inBreak ∧ (passEnd b s).lp.lowFor = s.lp.lowFor ∧
    (passEnd b s).lp.badStop = s.lp.badStop ∧
    (passEnd b s).lp.sinceReset = s.lp.sinceReset ∧
    (passEnd b s).lp.requests = s.lp.requests ∧ (passEnd b s).lp.service = s.lp.service ∧
    (passEnd b s).lp.abandoned = s.lp.abandoned ∧ (passEnd b s).lp.reply = s.lp.reply ∧
    (passEnd b s).lp.mask = s.lp.mask ∧ (passEnd b s).pins = s.pins ∧ (passEnd b s).coming = s.coming ∧
    (passEnd b s).pending = s.pending := by
  simp [passEnd]

@[simp] theorem afterAppend_frame (b : Bool) (s : State) :
    (afterAppend b s).ps = s.ps ∧ (afterAppend b s).seq.ctx = s.seq.ctx ∧ (afterAppend b s).tu.cfg = s.tu.cfg ∧
    (afterAppend b s).tu.lineLevel = s.tu.lineLevel ∧ (afterAppend b s).tu.prevMasked = s.tu.prevMasked ∧
    (afterAppend b s).tu.prevMatch = s.tu.prevMatch ∧ (afterAppend b s).tu.seenFalse = s.tu.seenFalse ∧
    (afterAppend b s).dl.rest = s.dl.rest ∧ (afterAppend b s).cv.mux = s.cv.mux ∧
    (afterAppend b s).fm.subst = s.fm.subst ∧ (afterAppend b s).fm.zones = s.fm.zones ∧
    (afterAppend b s).fm.heldByte = s.fm.heldByte ∧ (afterAppend b s).fm.heldStamp = s.fm.heldStamp ∧
    (afterAppend b s).ck.b = s.ck.b ∧ (afterAppend b s).ck.job = s.ck.job ∧
    (afterAppend b s).ck.entryCount = s.ck.entryCount ∧ (afterAppend b s).ck.absorbDue = s.ck.absorbDue ∧
    (afterAppend b s).rq.policy = s.rq.policy ∧ (afterAppend b s).rq.level = s.rq.level ∧
    (afterAppend b s).lp.speed = s.lp.speed ∧ (afterAppend b s).lp.rx = s.lp.rx ∧
    (afterAppend b s).lp.gap = s.lp.gap ∧ (afterAppend b s).lp.inBreak = s.lp.inBreak ∧
    (afterAppend b s).lp.lowFor = s.lp.lowFor ∧ (afterAppend b s).lp.badStop = s.lp.badStop ∧
    (afterAppend b s).lp.sinceReset = s.lp.sinceReset ∧ (afterAppend b s).lp.requests = s.lp.requests ∧
    (afterAppend b s).lp.service = s.lp.service ∧ (afterAppend b s).lp.abandoned = s.lp.abandoned ∧
    (afterAppend b s).lp.reply = s.lp.reply ∧ (afterAppend b s).lp.mask = s.lp.mask ∧
    (afterAppend b s).pins = s.pins ∧ (afterAppend b s).coming = s.coming ∧
    (afterAppend b s).pending = s.pending := by
  unfold afterAppend; split_ifs <;> simp

@[simp] theorem offerSample_frame (o : Offer) (s : State) :
    (offerSample o s).ps = s.ps ∧ (offerSample o s).seq.ctx = s.seq.ctx ∧ (offerSample o s).tu.cfg = s.tu.cfg ∧
    (offerSample o s).tu.lineLevel = s.tu.lineLevel ∧ (offerSample o s).tu.prevMasked = s.tu.prevMasked ∧
    (offerSample o s).tu.prevMatch = s.tu.prevMatch ∧ (offerSample o s).tu.seenFalse = s.tu.seenFalse ∧
    (offerSample o s).dl.rest = s.dl.rest ∧ (offerSample o s).cv.mux = s.cv.mux ∧
    (offerSample o s).fm.subst = s.fm.subst ∧ (offerSample o s).fm.zones = s.fm.zones ∧
    (offerSample o s).fm.heldByte = s.fm.heldByte ∧ (offerSample o s).fm.heldStamp = s.fm.heldStamp ∧
    (offerSample o s).ck.b = s.ck.b ∧ (offerSample o s).ck.job = s.ck.job ∧
    (offerSample o s).ck.entryCount = s.ck.entryCount ∧ (offerSample o s).ck.absorbDue = s.ck.absorbDue ∧
    (offerSample o s).rq.policy = s.rq.policy ∧ (offerSample o s).rq.level = s.rq.level ∧
    (offerSample o s).lp.speed = s.lp.speed ∧ (offerSample o s).lp.rx = s.lp.rx ∧
    (offerSample o s).lp.gap = s.lp.gap ∧ (offerSample o s).lp.inBreak = s.lp.inBreak ∧
    (offerSample o s).lp.lowFor = s.lp.lowFor ∧ (offerSample o s).lp.badStop = s.lp.badStop ∧
    (offerSample o s).lp.sinceReset = s.lp.sinceReset ∧ (offerSample o s).lp.requests = s.lp.requests ∧
    (offerSample o s).lp.service = s.lp.service ∧ (offerSample o s).lp.abandoned = s.lp.abandoned ∧
    (offerSample o s).lp.reply = s.lp.reply ∧ (offerSample o s).lp.mask = s.lp.mask ∧
    (offerSample o s).pins = s.pins ∧ (offerSample o s).coming = s.coming ∧
    (offerSample o s).pending = s.pending := by
  unfold offerSample; split_ifs <;> simp

@[simp] theorem releaseHeld_frame (s : State) :
    (releaseHeld s).ps = s.ps ∧ (releaseHeld s).seq.ctx = s.seq.ctx ∧ (releaseHeld s).tu.cfg = s.tu.cfg ∧
    (releaseHeld s).tu.lineLevel = s.tu.lineLevel ∧ (releaseHeld s).tu.prevMasked = s.tu.prevMasked ∧
    (releaseHeld s).tu.prevMatch = s.tu.prevMatch ∧ (releaseHeld s).tu.seenFalse = s.tu.seenFalse ∧
    (releaseHeld s).dl.rest = s.dl.rest ∧ (releaseHeld s).cv.mux = s.cv.mux ∧ (releaseHeld s).fm.subst = s.fm.subst ∧
    (releaseHeld s).fm.zones = s.fm.zones ∧ (releaseHeld s).fm.heldByte = s.fm.heldByte ∧
    (releaseHeld s).fm.heldStamp = s.fm.heldStamp ∧ (releaseHeld s).ck.b = s.ck.b ∧
    (releaseHeld s).ck.job = s.ck.job ∧ (releaseHeld s).ck.entryCount = s.ck.entryCount ∧
    (releaseHeld s).ck.absorbDue = s.ck.absorbDue ∧ (releaseHeld s).rq.policy = s.rq.policy ∧
    (releaseHeld s).rq.level = s.rq.level ∧ (releaseHeld s).lp.speed = s.lp.speed ∧ (releaseHeld s).lp.rx = s.lp.rx ∧
    (releaseHeld s).lp.gap = s.lp.gap ∧ (releaseHeld s).lp.inBreak = s.lp.inBreak ∧
    (releaseHeld s).lp.lowFor = s.lp.lowFor ∧ (releaseHeld s).lp.badStop = s.lp.badStop ∧
    (releaseHeld s).lp.sinceReset = s.lp.sinceReset ∧ (releaseHeld s).lp.requests = s.lp.requests ∧
    (releaseHeld s).lp.service = s.lp.service ∧ (releaseHeld s).lp.abandoned = s.lp.abandoned ∧
    (releaseHeld s).lp.reply = s.lp.reply ∧ (releaseHeld s).lp.mask = s.lp.mask ∧ (releaseHeld s).pins = s.pins ∧
    (releaseHeld s).coming = s.coming ∧ (releaseHeld s).pending = s.pending := by
  unfold releaseHeld; split <;> (try split_ifs) <;> simp

@[simp] theorem releasePause_frame (s : State) :
    (releasePause s).ps = s.ps ∧ (releasePause s).seq.stepIndex = s.seq.stepIndex ∧
    (releasePause s).seq.passNumber = s.seq.passNumber ∧ (releasePause s).seq.passesStarted = s.seq.passesStarted ∧
    (releasePause s).seq.sampleCount = s.seq.sampleCount ∧ (releasePause s).seq.missedTicks = s.seq.missedTicks ∧
    (releasePause s).seq.passClock = s.seq.passClock ∧ (releasePause s).seq.endCause = s.seq.endCause ∧
    (releasePause s).seq.ctx = s.seq.ctx ∧ (releasePause s).seq.pacer = s.seq.pacer ∧ (releasePause s).tu = s.tu ∧
    (releasePause s).dl.rest = s.dl.rest ∧ (releasePause s).cv = s.cv ∧ (releasePause s).fm = s.fm ∧
    (releasePause s).tm = s.tm ∧ (releasePause s).ck = s.ck ∧ (releasePause s).rq = s.rq ∧
    (releasePause s).lp.speed = s.lp.speed ∧ (releasePause s).lp.rx = s.lp.rx ∧ (releasePause s).lp.gap = s.lp.gap ∧
    (releasePause s).lp.inBreak = s.lp.inBreak ∧ (releasePause s).lp.lowFor = s.lp.lowFor ∧
    (releasePause s).lp.badStop = s.lp.badStop ∧
    (releasePause s).lp.sinceReset = s.lp.sinceReset ∧
    (releasePause s).lp.requests = s.lp.requests ∧ (releasePause s).lp.service = s.lp.service ∧
    (releasePause s).lp.abandoned = s.lp.abandoned ∧ (releasePause s).lp.reply = s.lp.reply ∧
    (releasePause s).lp.mask = s.lp.mask ∧ (releasePause s).pins = s.pins ∧ (releasePause s).coming = s.coming ∧
    (releasePause s).pending = s.pending := by
  simp [releasePause]

@[simp] theorem edgeReport_frame (s : State) :
    (edgeReport s).ps = s.ps ∧ (edgeReport s).seq.ctx = s.seq.ctx ∧ (edgeReport s).tu.cfg = s.tu.cfg ∧
    (edgeReport s).tu.lineLevel = s.tu.lineLevel ∧ (edgeReport s).tu.prevMasked = s.tu.prevMasked ∧
    (edgeReport s).tu.prevMatch = s.tu.prevMatch ∧ (edgeReport s).tu.seenFalse = s.tu.seenFalse ∧
    (edgeReport s).dl.rest = s.dl.rest ∧ (edgeReport s).cv.mux = s.cv.mux ∧ (edgeReport s).fm.subst = s.fm.subst ∧
    (edgeReport s).fm.zones = s.fm.zones ∧ (edgeReport s).fm.heldByte = s.fm.heldByte ∧
    (edgeReport s).fm.heldStamp = s.fm.heldStamp ∧ (edgeReport s).ck.b = s.ck.b ∧ (edgeReport s).ck.job = s.ck.job ∧
    (edgeReport s).ck.entryCount = s.ck.entryCount ∧ (edgeReport s).ck.absorbDue = s.ck.absorbDue ∧
    (edgeReport s).rq.policy = s.rq.policy ∧ (edgeReport s).rq.level = s.rq.level ∧
    (edgeReport s).lp.speed = s.lp.speed ∧ (edgeReport s).lp.rx = s.lp.rx ∧ (edgeReport s).lp.gap = s.lp.gap ∧
    (edgeReport s).lp.inBreak = s.lp.inBreak ∧ (edgeReport s).lp.lowFor = s.lp.lowFor ∧
    (edgeReport s).lp.badStop = s.lp.badStop ∧
    (edgeReport s).lp.sinceReset = s.lp.sinceReset ∧
    (edgeReport s).lp.requests = s.lp.requests ∧ (edgeReport s).lp.service = s.lp.service ∧
    (edgeReport s).lp.abandoned = s.lp.abandoned ∧ (edgeReport s).lp.reply = s.lp.reply ∧
    (edgeReport s).lp.mask = s.lp.mask ∧ (edgeReport s).pins = s.pins ∧ (edgeReport s).coming = s.coming ∧
    (edgeReport s).pending = s.pending := by
  unfold edgeReport; split <;> (try split_ifs) <;> simp

@[simp] theorem patternReport_frame (s : State) :
    (patternReport s).ps = s.ps ∧ (patternReport s).seq.ctx = s.seq.ctx ∧ (patternReport s).tu.cfg = s.tu.cfg ∧
    (patternReport s).tu.lineLevel = s.tu.lineLevel ∧ (patternReport s).tu.prevMasked = s.tu.prevMasked ∧
    (patternReport s).tu.prevMatch = s.tu.prevMatch ∧ (patternReport s).tu.seenFalse = s.tu.seenFalse ∧
    (patternReport s).dl.rest = s.dl.rest ∧ (patternReport s).cv.mux = s.cv.mux ∧
    (patternReport s).fm.subst = s.fm.subst ∧ (patternReport s).fm.zones = s.fm.zones ∧
    (patternReport s).fm.heldByte = s.fm.heldByte ∧ (patternReport s).fm.heldStamp = s.fm.heldStamp ∧
    (patternReport s).ck.b = s.ck.b ∧ (patternReport s).ck.job = s.ck.job ∧
    (patternReport s).ck.entryCount = s.ck.entryCount ∧ (patternReport s).ck.absorbDue = s.ck.absorbDue ∧
    (patternReport s).rq.policy = s.rq.policy ∧ (patternReport s).rq.level = s.rq.level ∧
    (patternReport s).lp.speed = s.lp.speed ∧ (patternReport s).lp.rx = s.lp.rx ∧
    (patternReport s).lp.gap = s.lp.gap ∧ (patternReport s).lp.inBreak = s.lp.inBreak ∧
    (patternReport s).lp.lowFor = s.lp.lowFor ∧ (patternReport s).lp.badStop = s.lp.badStop ∧
    (patternReport s).lp.sinceReset = s.lp.sinceReset ∧ (patternReport s).lp.requests = s.lp.requests ∧
    (patternReport s).lp.service = s.lp.service ∧ (patternReport s).lp.abandoned = s.lp.abandoned ∧
    (patternReport s).lp.reply = s.lp.reply ∧ (patternReport s).lp.mask = s.lp.mask ∧
    (patternReport s).pins = s.pins ∧ (patternReport s).coming = s.coming ∧
    (patternReport s).pending = s.pending := by
  unfold patternReport; split <;> (try split_ifs) <;> simp

@[simp] theorem keepLineSample_frame (s : State) :
    (keepLineSample s).ps = s.ps ∧ (keepLineSample s).seq = s.seq ∧ (keepLineSample s).tu.cfg = s.tu.cfg ∧
    (keepLineSample s).tu.lineWatching = s.tu.lineWatching ∧ (keepLineSample s).tu.cmpWatching = s.tu.cmpWatching ∧
    (keepLineSample s).tu.prevMasked = s.tu.prevMasked ∧ (keepLineSample s).tu.prevMatch = s.tu.prevMatch ∧
    (keepLineSample s).tu.cmpDue = s.tu.cmpDue ∧ (keepLineSample s).tu.monitor = s.tu.monitor ∧
    (keepLineSample s).tu.monitorTimer = s.tu.monitorTimer ∧ (keepLineSample s).tu.seenFalse = s.tu.seenFalse ∧
    (keepLineSample s).dl = s.dl ∧ (keepLineSample s).cv = s.cv ∧ (keepLineSample s).fm = s.fm ∧
    (keepLineSample s).tm = s.tm ∧ (keepLineSample s).ck = s.ck ∧ (keepLineSample s).rq = s.rq ∧
    (keepLineSample s).lp = s.lp ∧ (keepLineSample s).pins = s.pins ∧ (keepLineSample s).coming = s.coming ∧
    (keepLineSample s).pending = s.pending := by
  simp [keepLineSample]

@[simp] theorem keepPatternSample_frame (s : State) :
    (keepPatternSample s).ps = s.ps ∧ (keepPatternSample s).seq = s.seq ∧ (keepPatternSample s).tu.cfg = s.tu.cfg ∧
    (keepPatternSample s).tu.lineWatching = s.tu.lineWatching ∧ (keepPatternSample s).tu.lineLevel = s.tu.lineLevel ∧
    (keepPatternSample s).tu.lineDue = s.tu.lineDue ∧ (keepPatternSample s).tu.cmpWatching = s.tu.cmpWatching ∧
    (keepPatternSample s).tu.monitor = s.tu.monitor ∧ (keepPatternSample s).tu.monitorTimer = s.tu.monitorTimer ∧
    (keepPatternSample s).tu.seenFalse = s.tu.seenFalse ∧ (keepPatternSample s).dl = s.dl ∧
    (keepPatternSample s).cv = s.cv ∧ (keepPatternSample s).fm = s.fm ∧ (keepPatternSample s).tm = s.tm ∧
    (keepPatternSample s).ck = s.ck ∧ (keepPatternSample s).rq = s.rq ∧ (keepPatternSample s).lp = s.lp ∧
    (keepPatternSample s).pins = s.pins ∧ (keepPatternSample s).coming = s.coming ∧
    (keepPatternSample s).pending = s.pending := by
  simp [keepPatternSample]

@[simp] theorem sampleLine_frame (s : State) :
    (sampleLine s).ps = s.ps ∧ (sampleLine s).seq.ctx = s.seq.ctx ∧ (sampleLine s).tu.cfg = s.tu.cfg ∧
    (sampleLine s).tu.prevMasked = s.tu.prevMasked ∧ (sampleLine s).tu.prevMatch = s.tu.prevMatch ∧
    (sampleLine s).tu.seenFalse = s.tu.seenFalse ∧ (sampleLine s).dl.rest = s.dl.rest ∧
    (sampleLine s).cv.mux = s.cv.mux ∧ (sampleLine s).fm.subst = s.fm.subst ∧ (sampleLine s).fm.zones = s.fm.zones ∧
    (sampleLine s).fm.heldByte = s.fm.heldByte ∧ (sampleLine s).fm.heldStamp = s.fm.heldStamp ∧
    (sampleLine s).ck.b = s.ck.b ∧ (sampleLine s).ck.job = s.ck.job ∧
    (sampleLine s).ck.entryCount = s.ck.entryCount ∧ (sampleLine s).ck.absorbDue = s.ck.absorbDue ∧
    (sampleLine s).rq.policy = s.rq.policy ∧ (sampleLine s).rq.level = s.rq.level ∧
    (sampleLine s).lp.speed = s.lp.speed ∧ (sampleLine s).lp.rx = s.lp.rx ∧ (sampleLine s).lp.gap = s.lp.gap ∧
    (sampleLine s).lp.inBreak = s.lp.inBreak ∧ (sampleLine s).lp.lowFor = s.lp.lowFor ∧
    (sampleLine s).lp.badStop = s.lp.badStop ∧
    (sampleLine s).lp.sinceReset = s.lp.sinceReset ∧
    (sampleLine s).lp.requests = s.lp.requests ∧ (sampleLine s).lp.service = s.lp.service ∧
    (sampleLine s).lp.abandoned = s.lp.abandoned ∧ (sampleLine s).lp.reply = s.lp.reply ∧
    (sampleLine s).lp.mask = s.lp.mask ∧ (sampleLine s).pins = s.pins ∧ (sampleLine s).coming = s.coming ∧
    (sampleLine s).pending = s.pending := by
  unfold sampleLine; split_ifs <;> simp

@[simp] theorem samplePattern_frame (s : State) :
    (samplePattern s).ps = s.ps ∧ (samplePattern s).seq.ctx = s.seq.ctx ∧ (samplePattern s).tu.cfg = s.tu.cfg ∧
    (samplePattern s).tu.lineLevel = s.tu.lineLevel ∧ (samplePattern s).tu.seenFalse = s.tu.seenFalse ∧
    (samplePattern s).dl.rest = s.dl.rest ∧ (samplePattern s).cv.mux = s.cv.mux ∧
    (samplePattern s).fm.subst = s.fm.subst ∧ (samplePattern s).fm.zones = s.fm.zones ∧
    (samplePattern s).fm.heldByte = s.fm.heldByte ∧ (samplePattern s).fm.heldStamp = s.fm.heldStamp ∧
    (samplePattern s).ck.b = s.ck.b ∧ (samplePattern s).ck.job = s.ck.job ∧
    (samplePattern s).ck.entryCount = s.ck.entryCount ∧ (samplePattern s).ck.absorbDue = s.ck.absorbDue ∧
    (samplePattern s).rq.policy = s.rq.policy ∧ (samplePattern s).rq.level = s.rq.level ∧
    (samplePattern s).lp.speed = s.lp.speed ∧ (samplePattern s).lp.rx = s.lp.rx ∧
    (samplePattern s).lp.gap = s.lp.gap ∧ (samplePattern s).lp.inBreak = s.lp.inBreak ∧
    (samplePattern s).lp.lowFor = s.lp.lowFor ∧ (samplePattern s).lp.badStop = s.lp.badStop ∧
    (samplePattern s).lp.sinceReset = s.lp.sinceReset ∧ (samplePattern s).lp.requests = s.lp.requests ∧
    (samplePattern s).lp.service = s.lp.service ∧ (samplePattern s).lp.abandoned = s.lp.abandoned ∧
    (samplePattern s).lp.reply = s.lp.reply ∧ (samplePattern s).lp.mask = s.lp.mask ∧
    (samplePattern s).pins = s.pins ∧ (samplePattern s).coming = s.coming ∧
    (samplePattern s).pending = s.pending := by
  unfold samplePattern; split_ifs <;> simp

@[simp] theorem emptyQueueAction_frame (s : State) :
    (emptyQueueAction s).ps = s.ps ∧ (emptyQueueAction s).seq.ctx = s.seq.ctx ∧
    (emptyQueueAction s).tu.cfg = s.tu.cfg ∧ (emptyQueueAction s).tu.lineLevel = s.tu.lineLevel ∧
    (emptyQueueAction s).tu.prevMasked = s.tu.prevMasked ∧ (emptyQueueAction s).tu.prevMatch = s.tu.prevMatch ∧
    (emptyQueueAction s).tu.seenFalse = s.tu.seenFalse ∧ (emptyQueueAction s).dl.rest = s.dl.rest ∧
    (emptyQueueAction s).cv.mux = s.cv.mux ∧ (emptyQueueAction s).fm.subst = s.fm.subst ∧
    (emptyQueueAction s).fm.zones = s.fm.zones ∧ (emptyQueueAction s).fm.heldByte = s.fm.heldByte ∧
    (emptyQueueAction s).fm.heldStamp = s.fm.heldStamp ∧ (emptyQueueAction s).ck.b = s.ck.b ∧
    (emptyQueueAction s).ck.job = s.ck.job ∧ (emptyQueueAction s).ck.entryCount = s.ck.entryCount ∧
    (emptyQueueAction s).ck.absorbDue = s.ck.absorbDue ∧ (emptyQueueAction s).rq.policy = s.rq.policy ∧
    (emptyQueueAction s).rq.level = s.rq.level ∧ (emptyQueueAction s).lp.speed = s.lp.speed ∧
    (emptyQueueAction s).lp.rx = s.lp.rx ∧ (emptyQueueAction s).lp.gap = s.lp.gap ∧
    (emptyQueueAction s).lp.inBreak = s.lp.inBreak ∧ (emptyQueueAction s).lp.lowFor = s.lp.lowFor ∧
    (emptyQueueAction s).lp.badStop = s.lp.badStop ∧
    (emptyQueueAction s).lp.sinceReset = s.lp.sinceReset ∧
    (emptyQueueAction s).lp.requests = s.lp.requests ∧ (emptyQueueAction s).lp.service = s.lp.service ∧
    (emptyQueueAction s).lp.abandoned = s.lp.abandoned ∧ (emptyQueueAction s).lp.reply = s.lp.reply ∧
    (emptyQueueAction s).lp.mask = s.lp.mask ∧ (emptyQueueAction s).pins = s.pins ∧
    (emptyQueueAction s).coming = s.coming ∧ (emptyQueueAction s).pending = s.pending := by
  simp [emptyQueueAction]

@[simp] theorem eraseProgramAction_frame (s : State) :
    (eraseProgramAction s).seq = s.seq ∧ (eraseProgramAction s).tu = s.tu ∧ (eraseProgramAction s).dl = s.dl ∧
    (eraseProgramAction s).cv = s.cv ∧ (eraseProgramAction s).fm.active = s.fm.active ∧
    (eraseProgramAction s).fm.staged = s.fm.staged ∧ (eraseProgramAction s).fm.subst = s.fm.subst ∧
    (eraseProgramAction s).fm.heldByte = s.fm.heldByte ∧ (eraseProgramAction s).fm.heldStamp = s.fm.heldStamp ∧
    (eraseProgramAction s).tm = s.tm ∧ (eraseProgramAction s).ck = s.ck ∧ (eraseProgramAction s).rq = s.rq ∧
    (eraseProgramAction s).lp = s.lp ∧ (eraseProgramAction s).pins = s.pins ∧
    (eraseProgramAction s).coming = s.coming ∧ (eraseProgramAction s).pending = s.pending := by
  simp [eraseProgramAction, ProgramStore.powerOn]

@[simp] theorem eraseMapsAction_frame (s : State) :
    (eraseMapsAction s).ps = s.ps ∧ (eraseMapsAction s).seq = s.seq ∧ (eraseMapsAction s).tu = s.tu ∧
    (eraseMapsAction s).dl = s.dl ∧ (eraseMapsAction s).cv = s.cv ∧ (eraseMapsAction s).fm = s.fm ∧
    (eraseMapsAction s).ck = s.ck ∧ (eraseMapsAction s).rq = s.rq ∧ (eraseMapsAction s).lp = s.lp ∧
    (eraseMapsAction s).pins = s.pins ∧ (eraseMapsAction s).coming = s.coming ∧
    (eraseMapsAction s).pending = s.pending := by
  simp [eraseMapsAction]

@[simp] theorem restOutputsAction_frame (s : State) :
    (restOutputsAction s).ps = s.ps ∧ (restOutputsAction s).seq = s.seq ∧ (restOutputsAction s).tu = s.tu ∧
    (restOutputsAction s).dl.rest = s.dl.rest ∧ (restOutputsAction s).cv = s.cv ∧ (restOutputsAction s).fm = s.fm ∧
    (restOutputsAction s).tm = s.tm ∧ (restOutputsAction s).ck = s.ck ∧ (restOutputsAction s).rq = s.rq ∧
    (restOutputsAction s).lp = s.lp ∧ (restOutputsAction s).pins = s.pins ∧ (restOutputsAction s).coming = s.coming ∧
    (restOutputsAction s).pending = s.pending := by
  simp [restOutputsAction]

@[simp] theorem finishService_frame (r : Frame) (s : State) :
    (finishService r s).ps = s.ps ∧ (finishService r s).seq = s.seq ∧ (finishService r s).tu = s.tu ∧
    (finishService r s).dl = s.dl ∧ (finishService r s).cv = s.cv ∧ (finishService r s).fm = s.fm ∧
    (finishService r s).tm = s.tm ∧ (finishService r s).ck = s.ck ∧ (finishService r s).rq = s.rq ∧
    (finishService r s).lp.speed = s.lp.speed ∧ (finishService r s).lp.rx = s.lp.rx ∧
    (finishService r s).lp.gap = s.lp.gap ∧ (finishService r s).lp.inBreak = s.lp.inBreak ∧
    (finishService r s).lp.lowFor = s.lp.lowFor ∧ (finishService r s).lp.badStop = s.lp.badStop ∧
    (finishService r s).lp.sinceReset = s.lp.sinceReset ∧ (finishService r s).lp.requests = s.lp.requests ∧
    (finishService r s).lp.flags = s.lp.flags ∧ (finishService r s).lp.mask = s.lp.mask ∧
    (finishService r s).pins = s.pins ∧ (finishService r s).coming = s.coming ∧
    (finishService r s).pending = s.pending := by
  unfold finishService; simp only []; split_ifs <;> simp

@[simp] theorem expireMonitorInterval_frame (s : State) :
    (expireMonitorInterval s).ps = s.ps ∧ (expireMonitorInterval s).seq = s.seq ∧
    (expireMonitorInterval s).tu.cfg = s.tu.cfg ∧ (expireMonitorInterval s).tu.lineWatching = s.tu.lineWatching ∧
    (expireMonitorInterval s).tu.lineLevel = s.tu.lineLevel ∧ (expireMonitorInterval s).tu.lineDue = s.tu.lineDue ∧
    (expireMonitorInterval s).tu.cmpWatching = s.tu.cmpWatching ∧
    (expireMonitorInterval s).tu.prevMasked = s.tu.prevMasked ∧
    (expireMonitorInterval s).tu.prevMatch = s.tu.prevMatch ∧ (expireMonitorInterval s).tu.cmpDue = s.tu.cmpDue ∧
    (expireMonitorInterval s).tu.seenFalse = s.tu.seenFalse ∧ (expireMonitorInterval s).dl = s.dl ∧
    (expireMonitorInterval s).fm = s.fm ∧ (expireMonitorInterval s).tm = s.tm ∧ (expireMonitorInterval s).ck = s.ck ∧
    (expireMonitorInterval s).rq = s.rq ∧ (expireMonitorInterval s).lp = s.lp ∧
    (expireMonitorInterval s).pins = s.pins ∧ (expireMonitorInterval s).coming = s.coming ∧
    (expireMonitorInterval s).pending = s.pending := by
  simp [expireMonitorInterval]

end Sys2Proof.Machine
end

