-- ==== Sys2Proof/Laws/Ops.lean ====
section
/-! SUPPORT. What each shared operation does to the fields its frame leaves out, one rewrite rule per field: flags, the queue, a pass boundary, entry to STOPPED, steps and passes. -/

namespace Sys2Proof.Machine

/-! ## Flags -/

theorem Flag.position_lt (f : Flag) : f.position < 14 := by cases f <;> decide

theorem Flag.position_injective {f g : Flag} (h : f.position = g.position) : f = g := by
  cases f <;> cases g <;> first | rfl | (exact absurd h (by decide))

theorem Flag.getLsbD_bit (f g : Flag) : f.bit.getLsbD g.position = decide (f = g) := by
  cases f <;> cases g <;> decide

/-- A flag after another has been set: set if it is that one or stood set (R169). -/
theorem flag_raise (f g : Flag) (s : State) : (raise f s).flag g = (s.flag g || decide (f = g)) := by
  simp [State.flag, raise, Flag.getLsbD_bit]

theorem flag_raise_self (f : Flag) (s : State) : (raise f s).flag f = true := by simp [flag_raise]

theorem flag_congr {s t : State} (h : s.lp.flags = t.lp.flags) (f : Flag) : s.flag f = t.flag f := by
  simp [State.flag, h]

/-! ## The queue -/

/-- The records after an append (R141, R142, R146). -/
theorem pushRecord_records (r : Record) (s : State) :
    (pushRecord r s).rq.records =
      (if s.rq.policy = .discard ∧ 1024 ≤ s.rq.records.length then s.rq.records.tail else s.rq.records) ++ [r] := by
  by_cases full : s.rq.policy = .discard ∧ 1024 ≤ s.rq.records.length <;>
    simp [pushRecord, State.count, Config.queueCapacity, full, dropOldest, raise]

theorem levelTest_records (n : Nat) (s : State) : (levelTest n s).rq.records = s.rq.records := by simp

theorem appendSample_records (r : SampleRecord) (s : State) :
    (appendSample r s).rq.records =
      (if s.rq.policy = .discard ∧ 1024 ≤ s.rq.records.length then s.rq.records.tail else s.rq.records) ++
        [.sample r] := by
  simp [appendSample, pushRecord_records]

/-- Unit A absorbs the value of an appended sample record (R132). -/
theorem appendSample_unitA (r : SampleRecord) (s : State) : (appendSample r s).ck.a = s.ck.a.absorb r.value := by
  simp [appendSample, absorbA]

theorem appendSample_sampleCount (r : SampleRecord) (s : State) :
    (appendSample r s).seq.sampleCount = s.seq.sampleCount + 1 := by
  simp [appendSample]

theorem appendMarker_records (m : MarkerStatus) (s : State) :
    (appendMarker m s).rq.records =
      (if s.rq.policy = .discard ∧ 1024 ≤ s.rq.records.length then s.rq.records.tail else s.rq.records) ++
        [.marker (markerOf m s)] := by
  simp [appendMarker, pushRecord_records]

/-- The append of a record and its level test, in the vocabulary of the statements (R141, R142, R146, R149). -/
theorem append_withRecord (r : Record) (s : State) : levelTest s.count (pushRecord r s) = s.withRecord r := by
  unfold levelTest pushRecord State.withRecord dropOldest raise State.count Config.queueCapacity
  by_cases discard : s.rq.policy = .discard <;> by_cases full : 1024 ≤ s.rq.records.length <;>
    simp [discard, full] <;> split_ifs <;> rfl

/-- An append to a queue within its capacity keeps it there: under HALT where there is a place (R138, R142). -/
theorem pushRecord_length (r : Record) (s : State) (room : s.rq.records.length ≤ 1024)
    (place : s.rq.policy = .halt → s.rq.records.length ≤ 1023) : (pushRecord r s).rq.records.length ≤ 1024 := by
  rw [pushRecord_records]
  split_ifs with full
  · simp; omega
  · cases policy : s.rq.policy
    · have := place policy; simp; omega
    · have : ¬ 1024 ≤ s.rq.records.length := fun h => full ⟨policy, h⟩
      simp; omega

/-! ## Claims -/

theorem abandonClaim_claim (k : Claimant) (s : State) :
    (abandonClaim k s).cv.claim = s.cv.claim.filter (fun c => decide (c.claimant ≠ k)) := by
  unfold abandonClaim
  cases h : s.cv.claim with
  | none => simp [h]
  | some c => by_cases e : c.claimant = k <;> simp [e, h, Option.filter]

/-- An abandoned claim in the vocabulary of the statements (R73). -/
theorem abandonClaim_filter (k : Claimant) (s : State) :
    abandonClaim k s = { s with cv.claim := s.cv.claim.filter fun c => decide (c.claimant ≠ k) } := by
  unfold abandonClaim
  obtain ⟨ps, seq, tu, dl, ⟨mux, claim⟩, fm, tm, ck, rq, lp, pins, coming, pending⟩ := s
  cases claim with
  | none => rfl
  | some c => by_cases held : c.claimant = k <;> simp [Option.filter, held]

theorem claimConverter_cv (k : Claimant) (c : Fin 16) (r : Range) (a : Averaging) (s : State) :
    (claimConverter k c r a s).cv =
      { mux := c, claim := some { claimant := k, channel := c, range := r, asked := a, done := 0, sum := 0,
                                  overrange := false, input := s.pins.ain.get c, left := 5 } } := rfl

/-! ## Pass boundaries and entry to STOPPED -/

/-- A pass boundary installs profiles alone (R82). -/
@[simp] theorem install_frame (fm : Formatter) :
    fm.install.subst = fm.subst ∧ fm.install.zones = fm.zones ∧ fm.install.heldByte = fm.heldByte ∧
    fm.install.heldStamp = fm.heldStamp := by
  unfold Formatter.install; exact ⟨rfl, rfl, rfl, rfl⟩

theorem boundary_fm (s : State) : (boundary s).fm = s.fm.install := rfl

theorem boundary_tm (s : State) : (boundary s).tm = s.tm.flipPending := rfl

theorem get_eq_getElem {α : Type} {n : Nat} (v : Vector α n) (i : Fin n) : v.get i = v[i.val] := rfl

theorem get_ofFn {α : Type} {n : Nat} (f : Fin n → α) (i : Fin n) : (Vector.ofFn f).get i = f i := by
  rw [get_eq_getElem]; simp

theorem get_replicate {α : Type} {n : Nat} (x : α) (i : Fin n) : (Vector.replicate n x).get i = x := by
  rw [get_eq_getElem]; simp

theorem get_putAt {α : Type} {n : Nat} (v : Vector α n) (i j : Fin n) (x : α) :
    (putAt v i x).get j = if i = j then x else v.get j := by
  rw [get_eq_getElem, get_eq_getElem, putAt, Vector.getElem_set]
  simp only [Fin.ext_iff]

theorem install_active (fm : Formatter) (i : Fin 16) : fm.install.active.get i = fm.afterBoundary i := by
  simp only [Formatter.install, Formatter.afterBoundary, get_ofFn]

theorem install_staged (fm : Formatter) (i : Fin 16) : fm.install.staged.get i = none := by
  simp only [Formatter.install, get_replicate]

theorem flipPending_page (tm : TranslationMap) (i : Fin 16) :
    tm.flipPending.pages.get i = (tm.pages.get i).afterBoundary := by
  rw [TranslationMap.flipPending, get_ofFn]
  generalize tm.pages.get i = pg
  obtain ⟨live, a, b, pending, residue, entriesA, entriesB⟩ := pg
  cases pending <;> cases live <;> rfl

theorem boundary_passBoundary (s : State) : PassBoundary s (boundary s) :=
  ⟨fun i => ⟨install_active s.fm i, install_staged s.fm i⟩, fun i => flipPending_page s.tm i⟩

theorem enterStopped_seq (c : EndCause) (s : State) :
    (enterStopped c s).seq =
      { s.seq with state := .stopped, pacer := none, stepTimer := .idle, settle := none, pauseMark := false,
                   endCause := c } := by
  unfold enterStopped; simp only []; split_ifs <;> simp [haltSequencer]

theorem enterStopped_fm (c : EndCause) (s : State) : (enterStopped c s).fm = s.fm.install := by
  unfold enterStopped; simp only []; split_ifs <;> simp [boundary]

theorem enterStopped_tm (c : EndCause) (s : State) : (enterStopped c s).tm = s.tm.flipPending := by
  unfold enterStopped; simp only []; split_ifs <;> simp [boundary]

theorem enterStopped_latch (c : EndCause) (s : State) : (enterStopped c s).dl.latch = s.dl.rest := by
  unfold enterStopped; simp only []; split_ifs <;> simp [writeRest]

theorem enterStopped_tu (c : EndCause) (s : State) :
    (enterStopped c s).tu =
      { s.tu with lineWatching := false, lineDue := false, cmpWatching := false, cmpDue := false, monitor := .idle,
                  monitorTimer := none } := by
  unfold enterStopped; simp only []; split_ifs <;> simp [stopTriggers]

theorem enterStopped_claim (c : EndCause) (s : State) :
    (enterStopped c s).cv.claim = s.cv.claim.filter (fun k => decide (k.claimant ≠ .monitor)) := by
  unfold enterStopped; simp only []; split_ifs <;> simp [stopTriggers, abandonClaim_claim]

theorem enterStopped_flags (c : EndCause) (s : State) :
    (enterStopped c s).lp.flags = if c = .reset then s.lp.flags else (raise .runEnd s).lp.flags := by
  unfold enterStopped; simp only []; split_ifs <;> simp [raise]

/-! ## Steps and passes -/

/-- The step begin pauses: the entry's pause is set and its mark clear (R24). -/
def State.pauses (s : State) : Bool := s.entry.pause && !s.seq.pauseMark

theorem stepBegin_seq (s : State) :
    (stepBegin s).seq =
      if s.pauses then { s.seq with state := .paused, stepTimer := .idle, settle := none }
      else { s.seq with state := .running .settling, stepTimer := .start s.seq.ctx.stepInterval.toNat,
                        settle := some s.entry.settleTime } := by
  unfold stepBegin State.pauses
  simp only []
  split_ifs <;> simp

theorem stepBegin_flags (s : State) :
    (stepBegin s).lp.flags = if s.pauses then (raise .paused s).lp.flags else s.lp.flags := by
  unfold stepBegin State.pauses
  simp only []
  split_ifs
  · simp [raise]
  · simp

theorem stepBegin_latch (s : State) :
    (stepBegin s).dl.latch = if s.pauses then s.dl.latch else s.entry.pattern.getD s.dl.latch := by
  unfold stepBegin State.pauses
  simp only []
  split_ifs
  · simp
  · simp only [writePattern]; split <;> simp_all

theorem stepBegin_state (s : State) :
    (stepBegin s).seq.state = if s.pauses then .paused else .running .settling := by
  rw [stepBegin_seq]; split_ifs <;> rfl

end Sys2Proof.Machine
end

