-- ==== Sys2Proof/Laws/Requests.lean ====
section
/-! SUPPORT. The service of a request, once for all: what `serve` answers where the service may begin, where the frame arrives and where neither can be, which frame a request command serves, what the tables of fields read and write. -/

namespace Sys2Proof.Machine

/-! ## Service -/

/-- The service of a frame may begin just where the vocabulary of the statements says so. -/
theorem canServe_iff (s : State) (f : Frame) : s.canServe f = true ↔ ∃ rest, s.ready f rest := by
  simp only [State.canServe, State.portFree, Bool.and_eq_true, decide_eq_true_eq, Option.isNone_iff_eq_none, State.ready]
  constructor
  · rintro ⟨⟨free, empty⟩, head⟩
    cases requests : s.lp.requests with
    | nil => simp [requests] at head
    | cons g rest => exact ⟨rest, free, empty, by simpa [requests] using head⟩
  · rintro ⟨rest, free, empty, requests⟩
    exact ⟨⟨free, empty⟩, by simp [requests]⟩

/-- Where the service may begin, the owner acts on the state without its head frame, or LEN is refused (R163, R178). -/
theorem serve_ready {kind tag : Byte} {body : List Byte} {rest : List Frame} {s : State}
    (ready : s.ready ⟨kind, tag, body⟩ rest) (lengthOk : Bool) (owner : State → State) :
    serve kind tag body lengthOk owner s =
      if lengthOk then owner (takeRequest s) else declined rest kind tag .badLength s := by
  rw [serve, if_pos ((canServe_iff _ _).mpr ⟨rest, ready⟩)]
  obtain ⟨-, -, head⟩ := ready
  simp [beginService, refuse, putReply, takeRequest, declined, answered, kindRefuse, head]

/-- The same, from the meaning of the command. -/
theorem served {kind tag : Byte} {body : List Byte} {rest : List Frame} {s : State} {lengthOk : Bool}
    {owner : State → State} {outcome : Host.Outcome State Fault Refusal} (ready : s.ready ⟨kind, tag, body⟩ rest)
    (meaning : outcome = .next (serve kind tag body lengthOk owner s)) :
    outcome = .next (if lengthOk then owner (takeRequest s) else declined rest kind tag .badLength s) := by
  rw [meaning, serve_ready ready]

/-- A gap not above 5000 microseconds changes nothing (R159). -/
theorem judgeGap_short {s : State} (short : s.lp.gap.getD 0 ≤ 5000) : judgeGap s = s := by
  unfold judgeGap State.gapExceeded Config.gapLimit
  cases gap : s.lp.gap with
  | none => rfl
  | some n =>
    rw [gap, Option.getD_some] at short
    exact if_neg (by simpa using short)

/-- A gap above 5000 microseconds ends the partial frame with LINK_ERROR (R159). -/
theorem judgeGap_long {s : State} (long : 5000 < s.lp.gap.getD 0) :
    judgeGap s = { s with lp.rx := .hunt, lp.gap := none, lp.flags := s.lp.flags ||| Flag.linkError.bit } := by
  unfold judgeGap State.gapExceeded Config.gapLimit
  cases gap : s.lp.gap with
  | none => rw [gap] at long; exact absurd long (by decide)
  | some n =>
    rw [gap, Option.getD_some] at long
    exact if_pos (by simpa using long)

/-- Where no service may begin and no frame can arrive nothing changes (log 2). -/
theorem serve_deaf {kind tag : Byte} {body : List Byte} {s : State} (unready : ∀ rest, ¬ s.ready ⟨kind, tag, body⟩ rest)
    (deaf : (judgeGap s).canArrive body = false) (lengthOk : Bool) (owner : State → State) :
    serve kind tag body lengthOk owner s = s := by
  rw [serve, if_neg (fun can => by obtain ⟨rest, h⟩ := (canServe_iff _ _).mp can; exact unready rest h), deaf]
  rfl

/-- A frame that arrives after too long a gap in another arrives as after its end (R159; log 2). -/
theorem serve_late {kind tag : Byte} {body : List Byte} {s : State} (unready : ∀ rest, ¬ s.ready ⟨kind, tag, body⟩ rest)
    (arrives : (judgeGap s).canArrive body = true) (lengthOk : Bool) (owner : State → State) :
    serve kind tag body lengthOk owner s = serve kind tag body lengthOk owner (judgeGap s) := by
  have not_ready (t : State) (same : t.lp.service = s.lp.service ∧ t.lp.reply = s.lp.reply ∧ t.lp.requests = s.lp.requests) :
      ¬ t.canServe ⟨kind, tag, body⟩ = true := fun can => by
    obtain ⟨rest, h⟩ := (canServe_iff _ _).mp can
    exact unready rest ⟨same.1 ▸ h.1, same.2.1 ▸ h.2.1, same.2.2 ▸ h.2.2⟩
  have once : judgeGap (judgeGap s) = judgeGap s := by
    by_cases long : s.gapExceeded = true
    · have judged : judgeGap s = linkError s := if_pos long
      rw [judged]; rfl
    · have judged : judgeGap s = s := if_neg long
      rw [judged, judged]
  rw [serve, serve, if_neg (not_ready s ⟨rfl, rfl, rfl⟩), if_neg (not_ready (judgeGap s) (by simp)), once,
    if_pos arrives, if_pos arrives]

/-- A frame that arrives at a free port with an empty buffer is served at once, as from the buffer (log 2). -/
theorem serve_alone {kind tag : Byte} {body : List Byte} {s : State} (arrives : s.canArrive body = true)
    (short : judgeGap s = s)
    (free : s.lp.service = .idle) (empty : s.lp.reply = none) (none : s.lp.requests = []) (lengthOk : Bool)
    (owner : State → State) :
    serve kind tag body lengthOk owner s =
      serve kind tag body lengthOk owner { s with lp.requests := [⟨kind, tag, body⟩] } := by
  simp [serve, State.canServe, State.portFree, short, arrives, free, empty, none, joinBuffer, Config.requestSlots]

/-- A frame that arrives where its service may not begin joins the buffer, or is lost where the buffer is full (log 2). -/
theorem serve_waits {kind tag : Byte} {body : List Byte} {s : State} (arrives : s.canArrive body = true)
    (short : judgeGap s = s)
    (unready : ∀ rest, ¬ s.ready ⟨kind, tag, body⟩ rest)
    (waits : ¬ (s.lp.service = .idle ∧ s.lp.reply = none ∧ s.lp.requests = [])) (lengthOk : Bool)
    (owner : State → State) : serve kind tag body lengthOk owner s = joinBuffer ⟨kind, tag, body⟩ s := by
  have not_ready : ¬ s.canServe ⟨kind, tag, body⟩ = true := fun can => by
    obtain ⟨rest, h⟩ := (canServe_iff _ _).mp can; exact unready rest h
  have still : ¬ (joinBuffer ⟨kind, tag, body⟩ s).canServe ⟨kind, tag, body⟩ = true := fun can => by
    obtain ⟨rest, free, empty, head⟩ := (canServe_iff _ _).mp can
    have free : s.lp.service = .idle := by simpa using free
    have empty : s.lp.reply = .none := by simpa using empty
    cases requests : s.lp.requests with
    | nil => exact waits ⟨free, empty, requests⟩
    | cons g more =>
      refine unready more ⟨free, empty, ?_⟩
      have same : g = ⟨kind, tag, body⟩ := by
        unfold joinBuffer at head
        split_ifs at head <;> simp [requests] at head <;> exact head.1
      rw [requests, same]
  rw [serve, if_neg not_ready, short, if_pos arrives]
  exact if_neg still

/-- All that a request command can do: nothing, the arrival of its frame, or its service with or without the arrival. -/
theorem serve_cases (kind tag : Byte) (body : List Byte) (lengthOk : Bool) (owner : State → State) (s : State) :
    let arrival := joinBuffer ⟨kind, tag, body⟩ (judgeGap s)
    serve kind tag body lengthOk owner s = s ∨
    ((judgeGap s).canArrive body = true ∧ serve kind tag body lengthOk owner s = arrival) ∨
    ∃ t rest, (t = s ∨ (judgeGap s).canArrive body = true ∧ t = arrival) ∧ t.ready ⟨kind, tag, body⟩ rest ∧
      serve kind tag body lengthOk owner s = beginService kind tag lengthOk owner t := by
  intro arrival
  unfold serve
  split_ifs with served arrives
  · obtain ⟨rest, ready⟩ := (canServe_iff _ _).mp served
    exact Or.inr (Or.inr ⟨s, rest, Or.inl rfl, ready, rfl⟩)
  · by_cases joined : arrival.canServe ⟨kind, tag, body⟩ = true
    · obtain ⟨rest, ready⟩ := (canServe_iff _ _).mp joined
      exact Or.inr (Or.inr ⟨_, rest, Or.inr ⟨arrives, rfl⟩, ready, if_pos joined⟩)
    · exact Or.inr (Or.inl ⟨arrives, if_neg joined⟩)
  · exact Or.inl rfl

/-- With a slot free a frame joins the buffer at the tail (R161). -/
theorem joinBuffer_room {f : Frame} {s : State} (room : s.lp.requests.length < 4) :
    joinBuffer f s = { s with lp.requests := s.lp.requests ++ [f] } := if_pos room

/-- With no slot free a frame is lost with LINK_ERROR (R161). -/
theorem joinBuffer_full {f : Frame} {s : State} (full : 4 ≤ s.lp.requests.length) :
    joinBuffer f s = { s with lp.flags := s.lp.flags ||| Flag.linkError.bit } := if_neg (Nat.not_lt.mpr full)

/-- A property that an arrival and the begin of a service keep is kept by every request command. -/
theorem serve_keeps {P : State → Prop} {kind tag : Byte} {body : List Byte} {lengthOk : Bool} {owner : State → State}
    {s : State} (here : P s)
    (joins : (judgeGap s).canArrive body = true → P (joinBuffer ⟨kind, tag, body⟩ (judgeGap s)))
    (begins : ∀ t rest, P t → t.ready ⟨kind, tag, body⟩ rest → P (beginService kind tag lengthOk owner t)) :
    P (serve kind tag body lengthOk owner s) := by
  obtain same | ⟨arrives, joined⟩ | ⟨t, rest, from_, ready, served⟩ := serve_cases kind tag body lengthOk owner s
  · rw [same]; exact here
  · rw [joined]; exact joins arrives
  · rw [served]
    refine begins t rest ?_ ready
    rcases from_ with rfl | ⟨arrives, rfl⟩
    · exact here
    · exact joins arrives

/-- A REFUSE formed at service begin. -/
theorem refuse_takeRequest {f : Frame} {rest : List Frame} {s : State} (ready : s.ready f rest) (kind tag : Byte)
    (reason : Reason) : refuse kind tag reason (takeRequest s) = declined rest kind tag reason s := by
  obtain ⟨-, -, head⟩ := ready
  simp [refuse, putReply, takeRequest, declined, answered, kindRefuse, head]

/-- An ACK in terms of `answered`. -/
theorem ack_answered (kind tag : Byte) (body : List Byte) (s : State) :
    ack kind tag body s = answered s.lp.requests (kind + 0x80) tag body s := rfl

/-- An ACK formed at service begin with no other change. -/
theorem ack_takeRequest {f : Frame} {rest : List Frame} {s : State} (ready : s.ready f rest) (kind tag : Byte)
    (body : List Byte) : ack kind tag body (takeRequest s) = answered rest (kind + 0x80) tag body s := by
  obtain ⟨-, -, head⟩ := ready
  simp [ack, putReply, takeRequest, answered, ackKind, head]

@[simp] theorem active_takeRequest (s : State) : (takeRequest s).active = s.active := rfl

theorem active_of_ne {s : State} (h : s.seq.state ≠ .stopped) : s.active = true := by
  simp [State.active, AcqState.active, h]

theorem inactive_of_eq {s : State} (h : s.seq.state = .stopped) : s.active = false := by
  simp [State.active, AcqState.active, h]

/-! ## Request commands -/

theorem requestFrame_ite {p : Prop} [Decidable p] {c d : Instr} {f : Option Frame} (yes : p → requestFrame? c = f)
    (no : requestFrame? d = f) : requestFrame? (if p then c else d) = f := by
  by_cases h : p
  · rw [if_pos h]; exact yes h
  · rw [if_neg h]; exact no

/-- The request command of a frame serves that frame. -/
theorem requestCommand_frame (kind tag : Byte) (body : List Byte) :
    requestFrame? (requestCommand kind tag body) = some ⟨kind, tag, body⟩ := by
  unfold requestCommand
  iterate 23 refine requestFrame_ite (fun h => by rw [h]; rfl) ?_
  rfl

theorem serves_ite {p : Prop} [Decidable p] {c d : Instr} {kind tag : Byte} {body : List Byte}
    (yes : p → ∃ lengthOk owner, ∀ s, exec c s = .next (serve kind tag body lengthOk owner s))
    (no : ¬ p → ∃ lengthOk owner, ∀ s, exec d s = .next (serve kind tag body lengthOk owner s)) :
    ∃ lengthOk owner, ∀ s, exec (if p then c else d) s = .next (serve kind tag body lengthOk owner s) := by
  by_cases h : p
  · simpa only [if_pos h] using yes h
  · simpa only [if_neg h] using no h

/-- The request command of a frame is `serve` with an owner and a judgment of LEN that do not look at the state. -/
theorem requestCommand_serves (kind tag : Byte) (body : List Byte) :
    ∃ lengthOk owner, ∀ s, exec (requestCommand kind tag body) s = .next (serve kind tag body lengthOk owner s) := by
  by_cases known : requestKinds.contains kind = true
  · unfold requestCommand
    iterate 23 refine serves_ite (fun h => by subst h; exact ⟨_, _, fun _ => rfl⟩) fun _ => ?_
    simp_all [requestKinds]
  · have own : requestCommand kind tag body = .unknownKind kind tag body := by
      simp only [requestKinds, List.contains_eq_mem, List.mem_cons, List.not_mem_nil, or_false, not_or,
        decide_eq_true_eq] at known
      simp only [requestCommand, known, if_false]
    exact ⟨_, _, fun s => by rw [own]; simp only [exec, execUnknownKind, known]; rfl⟩

/-- An event of the part's own is no request command. -/
theorem ne_requestCommand {c : Instr} (h : requestFrame? c = none) (kind tag : Byte) (body : List Byte) :
    c ≠ requestCommand kind tag body := by
  intro e; rw [e, requestCommand_frame] at h; cases h

theorem firstDue_some {other : Option Instr} {c : Instr} :
    ∀ {l : List (Bool × Instr)}, firstDue other l = some c → (true, c) ∈ l ∨ other = some c
  | [], h => Or.inr h
  | (true, _) :: _, h => Or.inl (by rw [Option.some.inj h]; exact List.mem_cons_self)
  | (false, _) :: rest, h => (firstDue_some (l := rest) h).imp_left (List.mem_cons_of_mem _)

theorem firstDue_none {other : Option Instr} :
    ∀ {l : List (Bool × Instr)}, firstDue other l = none → (∀ e ∈ l, e.1 = false) ∧ other = none
  | [], h => ⟨nofun, h⟩
  | (true, _) :: _, h => nomatch h
  | (false, _) :: rest, h =>
    ⟨List.forall_mem_cons.2 ⟨rfl, (firstDue_none (l := rest) h).1⟩, (firstDue_none (l := rest) h).2⟩

/-- What is due is an event of the part's own that is due, or the service that may begin (log 4). -/
theorem due_some {s : State} {c : Instr} (h : s.due = some c) : (true, c) ∈ s.events ∨ s.serviceDue = some c :=
  firstDue_some h

/-- Where nothing is due no event of the part's own is, nor a service (log 4). -/
theorem due_none {s : State} (h : s.due = none) : (∀ e ∈ s.events, e.1 = false) ∧ s.serviceDue = none :=
  firstDue_none h

/-- No event of the part's own is a request command. -/
theorem events_own (s : State) : ∀ e ∈ s.events, requestFrame? e.2 = none := by
  simp [State.events, requestFrame?]

/-- What is due: an event of the part's own, or the service of a request (log 4). -/
theorem due_cases (s : State) : (∃ c, s.due = some c ∧ requestFrame? c = none) ∨ s.due = s.serviceDue := by
  cases h : s.due with
  | none => exact Or.inr (due_none h).2.symm
  | some c => exact (due_some h).imp (fun m => ⟨c, rfl, events_own s _ m⟩) Eq.symm

/-! ## Tables of fields -/

/-- An entry after consecutive entries were written. -/
theorem get_writeFrom {α : Type} {n : Nat} (xs : List α) :
    ∀ (t : Vector α n) (start : Nat) (i : Fin n),
      (writeFrom t start xs).get i = if start ≤ i.val then (xs[i.val - start]?).getD (t.get i) else t.get i := by
  induction xs with
  | nil => intro t start i; simp [writeFrom]
  | cons x xs ih =>
    intro t start i
    have one : (t.setIfInBounds start x).get i = if start = i.val then x else t.get i := by
      simp only [get_eq_getElem, Vector.getElem_setIfInBounds]
    rw [writeFrom, ih, one]
    by_cases after : start + 1 ≤ i.val
    · rw [if_pos after, if_pos (by omega : start ≤ i.val), if_neg (by omega : ¬ start = i.val),
        show i.val - start = (i.val - (start + 1)) + 1 by omega, List.getElem?_cons_succ]
    · rw [if_neg after]
      by_cases here : start = i.val
      · simp [here]
      · rw [if_neg here, if_neg (by omega)]

/-- An entry after one value was set in consecutive entries. -/
theorem get_fillFrom {α : Type} {n : Nat} (x : α) (k : Nat) :
    ∀ (t : Vector α n) (start : Nat) (i : Fin n),
      (fillFrom t start x k).get i = if start ≤ i.val ∧ i.val < start + k then x else t.get i := by
  induction k with
  | zero => intro t start i; rw [fillFrom, if_neg (by omega)]
  | succ k ih =>
    intro t start i
    have one : (t.setIfInBounds start x).get i = if start = i.val then x else t.get i := by
      simp only [get_eq_getElem, Vector.getElem_setIfInBounds]
    rw [fillFrom, ih, one]
    by_cases inside : start + 1 ≤ i.val ∧ i.val < start + 1 + k
    · rw [if_pos inside, if_pos (by omega)]
    · rw [if_neg inside]
      by_cases here : start = i.val
      · rw [if_pos here, if_pos (by omega)]
      · rw [if_neg here, if_neg (by omega)]

theorem words16_length (bytes : List Byte) : (words16 bytes).length = bytes.length / 2 := by
  induction bytes using words16.induct with
  | case1 x y rest ih => simp [words16, ih]; omega
  | case2 bytes short =>
    rcases bytes with _ | ⟨_, _ | ⟨_, _⟩⟩
    · rfl
    · simp [words16]
    · exact absurd rfl (short _ _ _)

/-- Word `k` is bytes `2 k` and `2 k + 1`. -/
theorem words16_getElem? (bytes : List Byte) :
    ∀ (k : Nat) (b0 b1 : Byte), bytes[2 * k]? = some b0 → bytes[2 * k + 1]? = some b1 →
      (words16 bytes)[k]? = some (BitVec.ofNat 16 (num16 b0 b1)) := by
  induction bytes using words16.induct with
  | case1 x y rest ih =>
    intro k b0 b1 h0 h1
    cases k with
    | zero => simp at h0 h1; simp [words16, h0, h1]
    | succ k =>
      simp only [words16, List.getElem?_cons_succ]
      apply ih
      · rw [← h0]; simp [Nat.mul_add]
      · rw [← h1]; simp [Nat.mul_add]
  | case2 bytes short =>
    intro k b0 b1 h0 h1
    rcases bytes with _ | ⟨_, _ | ⟨_, _⟩⟩
    · simp at h0
    · simp at h1
    · exact absurd rfl (short _ _ _)

theorem num16_lt (b0 b1 : Byte) : num16 b0 b1 < 65536 := by unfold num16; omega

theorem num16_bytes {n : Nat} (h : n < 65536) : num16 (BitVec.ofNat 8 n) (BitVec.ofNat 8 (n / 256)) = n := by
  simp [num16]; omega

/-- As many entries are read as were asked for. -/
theorem entries?_length : ∀ {n : Nat} {bytes : List Byte} {es : List Entry}, entries? n bytes = some es → es.length = n
  | 0, _, es, h => by simp [entries?] at h; simp [← h]
  | n + 1, bytes, es, h => by
    simp only [entries?, Option.bind_eq_bind, Option.bind_eq_some_iff, Option.some.injEq] at h
    obtain ⟨e, -, rest, more, rfl⟩ := h
    simp [entries?_length more]

/-! ## Codes of fields -/

theorem nibble?_eq {b : Byte} {i : Fin 16} (h : b.toNat = i.val) : nibble? b = some i := by
  unfold nibble?; rw [dif_pos (by omega)]; simp [h]

theorem nibble?_none {b : Byte} (h : 16 ≤ b.toNat) : nibble? b = none := by unfold nibble?; rw [dif_neg (by omega)]

theorem half?_byte (h : Half) : half? h.byte = some h := by cases h <;> rfl

theorem half?_none {b : Byte} (h : 2 ≤ b.toNat) : half? b = none := by
  unfold half?; rw [if_neg, if_neg] <;> intro e <;> subst e <;> simp at h

theorem mark?_markByte (b : Bool) : mark? (markByte b) = some b := by cases b <;> rfl

theorem range?_byte (r : Range) : range? r.byte = some r := by cases r <;> rfl

theorem averaging?_byte (a : Averaging) : averaging? a.byte = some a := by cases a <;> rfl

theorem source?_byte (x : Source) : source? x.byte = some x := by cases x <;> rfl

theorem nibble?_nibbleByte (i : Fin 16) : nibble? (nibbleByte i) = some i := by revert i; decide

theorem code?_bytes (c : Code) : code? (BitVec.ofNat 8 c.toNat) (BitVec.ofNat 8 (c.toNat / 256)) = some c := by
  unfold code?; rw [num16_bytes (by omega), if_pos (by omega)]; simp

theorem code?_value {b0 b1 : Byte} {c : Code} (h : code? b0 b1 = some c) : c.toNat = num16 b0 b1 := by
  unfold code? at h
  split_ifs at h with inRange
  simp only [Option.some.injEq] at h
  subst h
  simp
  omega

theorem slot?_byte (c : ConditionSlot) : slot? c.byte = some c := by
  rcases c with ⟨enabled, source⟩
  cases source with
  | din line => revert line enabled; decide
  | high => revert enabled; decide
  | low => revert enabled; decide
  | ovr => revert enabled; decide

end Sys2Proof.Machine
end

