-- ==== Sys2Proof/WellFormed.lean ====
section
/-! DEFINITION. Which commands are well formed: a body a frame can carry, a kind that names no request where the command says so, a LEN byte that is too great where the command says so. -/

namespace Sys2Proof

/-- A body a frame can carry: at most 240 bytes (R157). -/
def bodyFits (body : List Byte) : Bool := decide (body.length ≤ Config.maxBody)

/-- The checks on a command's operands. A command that fails them is one that no line of the part can bring. -/
def WellFormed : Instr → Bool
  | .identify _ body => bodyFits body
  | .status _ body => bodyFits body
  | .clear _ body => bodyFits body
  | .emptyQueue _ _ => true
  | .eraseProgram _ _ => true
  | .eraseMaps _ _ => true
  | .restOutputs _ _ => true
  | .attentionSet _ body => bodyFits body
  | .reset _ body => bodyFits body
  | .programLoad _ body => bodyFits body
  | .programTrim _ body => bodyFits body
  | .programRead _ body => bodyFits body
  | .triggerSet _ body => bodyFits body
  | .outputSet _ body => bodyFits body
  | .arm _ body => bodyFits body
  | .stop _ body => bodyFits body
  | .resume _ body => bodyFits body
  | .sample _ body => bodyFits body
  | .profileSet _ body => bodyFits body
  | .profileRead _ body => bodyFits body
  | .substituteSet _ body => bodyFits body
  | .mapLoad _ body => bodyFits body
  | .mapCommit _ body => bodyFits body
  | .mapSwap _ body => bodyFits body
  | .mapRead _ body => bodyFits body
  | .checkSet _ body => bodyFits body
  | .drain _ body => bodyFits body
  | .unknownKind kind _ body => !requestKinds.contains kind && bodyFits body
  | .frameComplete _ => true
  | .lenError len => decide (Config.maxBody < len.toNat)
  | .gapTimeout => true
  | .framingError => true
  | .linkBreak => true
  | .breakEnd => true
  | .replySent => true
  | .holdnRelease => true
  | .powerOnReset => true
  | .settleExpiry => true
  | .stepTimerExpiry => true
  | .pacerExpiry => true
  | .conversionEnd => true
  | .monitorIntervalExpiry => true
  | .sampleSettleExpiry => true
  | .unitBAbsorb => true
  | .mapCommitCompletion => true
  | .trigEdge => true
  | .patternEvent => true
  | .byteReceived _ => true
  | .replyByteSent => true
  | .comparatorSample => true
  | .lineWatcherSample => true

end Sys2Proof
end

