-- ==== Sys2Proof/Laws/PerInstr.lean ====
section
/-! SUPPORT. Statements made once per command: a well-formed request command serves a frame that the envelope can carry. -/

namespace Sys2Proof.Laws.FrameFits

open Sys2Proof.Machine

/-- The frame a well-formed request command serves has a body of at most 240 bytes (R157). -/
def Statement (i : Instr) : Prop :=
  WellFormed i = true → ∀ f, requestFrame? i = some f → f.body.length ≤ 240

theorem body_fits {body : List Byte} {f : Frame} {kind tag : Byte} (fits : bodyFits body = true)
    (frame : some (⟨kind, tag, body⟩ : Frame) = some f) : f.body.length ≤ 240 := by
  cases frame; exact of_decide_eq_true fits

/-- The CLEAR of one action has a body of three bytes. -/
theorem action_fits {f : Frame} {tag actions : Byte} {mask : BitVec 16}
    (frame : some (⟨kindClear, tag, clearBody mask actions⟩ : Frame) = some f) : f.body.length ≤ 240 := by
  cases frame; exact Nat.le_of_ble_eq_true rfl

theorem identify (tag : Byte) (body : List Byte) : Statement (.identify tag body) :=
  fun h _ e => body_fits h e

theorem status (tag : Byte) (body : List Byte) : Statement (.status tag body) :=
  fun h _ e => body_fits h e

theorem clear (tag : Byte) (body : List Byte) : Statement (.clear tag body) :=
  fun h _ e => body_fits h e

theorem emptyQueue (tag : Byte) (mask : BitVec 16) : Statement (.emptyQueue tag mask) :=
  fun _ _ e => action_fits e

theorem eraseProgram (tag : Byte) (mask : BitVec 16) : Statement (.eraseProgram tag mask) :=
  fun _ _ e => action_fits e

theorem eraseMaps (tag : Byte) (mask : BitVec 16) : Statement (.eraseMaps tag mask) :=
  fun _ _ e => action_fits e

theorem restOutputs (tag : Byte) (mask : BitVec 16) : Statement (.restOutputs tag mask) :=
  fun _ _ e => action_fits e

theorem attentionSet (tag : Byte) (body : List Byte) : Statement (.attentionSet tag body) :=
  fun h _ e => body_fits h e

theorem reset (tag : Byte) (body : List Byte) : Statement (.reset tag body) :=
  fun h _ e => body_fits h e

theorem programLoad (tag : Byte) (body : List Byte) : Statement (.programLoad tag body) :=
  fun h _ e => body_fits h e

theorem programTrim (tag : Byte) (body : List Byte) : Statement (.programTrim tag body) :=
  fun h _ e => body_fits h e

theorem programRead (tag : Byte) (body : List Byte) : Statement (.programRead tag body) :=
  fun h _ e => body_fits h e

theorem triggerSet (tag : Byte) (body : List Byte) : Statement (.triggerSet tag body) :=
  fun h _ e => body_fits h e

theorem outputSet (tag : Byte) (body : List Byte) : Statement (.outputSet tag body) :=
  fun h _ e => body_fits h e

theorem arm (tag : Byte) (body : List Byte) : Statement (.arm tag body) :=
  fun h _ e => body_fits h e

theorem stop (tag : Byte) (body : List Byte) : Statement (.stop tag body) :=
  fun h _ e => body_fits h e

theorem resume (tag : Byte) (body : List Byte) : Statement (.resume tag body) :=
  fun h _ e => body_fits h e

theorem sample (tag : Byte) (body : List Byte) : Statement (.sample tag body) :=
  fun h _ e => body_fits h e

theorem profileSet (tag : Byte) (body : List Byte) : Statement (.profileSet tag body) :=
  fun h _ e => body_fits h e

theorem profileRead (tag : Byte) (body : List Byte) : Statement (.profileRead tag body) :=
  fun h _ e => body_fits h e

theorem substituteSet (tag : Byte) (body : List Byte) : Statement (.substituteSet tag body) :=
  fun h _ e => body_fits h e

theorem mapLoad (tag : Byte) (body : List Byte) : Statement (.mapLoad tag body) :=
  fun h _ e => body_fits h e

theorem mapCommit (tag : Byte) (body : List Byte) : Statement (.mapCommit tag body) :=
  fun h _ e => body_fits h e

theorem mapSwap (tag : Byte) (body : List Byte) : Statement (.mapSwap tag body) :=
  fun h _ e => body_fits h e

theorem mapRead (tag : Byte) (body : List Byte) : Statement (.mapRead tag body) :=
  fun h _ e => body_fits h e

theorem checkSet (tag : Byte) (body : List Byte) : Statement (.checkSet tag body) :=
  fun h _ e => body_fits h e

theorem drain (tag : Byte) (body : List Byte) : Statement (.drain tag body) :=
  fun h _ e => body_fits h e

theorem unknownKind (kind tag : Byte) (body : List Byte) : Statement (.unknownKind kind tag body) := by
  intro h f e
  simp only [WellFormed, Bool.and_eq_true] at h
  exact body_fits h.2 e

theorem frameComplete (chk : Byte) : Statement (.frameComplete chk) := fun _ _ e => nomatch e

theorem lenError (len : Byte) : Statement (.lenError len) := fun _ _ e => nomatch e

theorem gapTimeout : Statement .gapTimeout := fun _ _ e => nomatch e

theorem framingError : Statement .framingError := fun _ _ e => nomatch e

theorem linkBreak : Statement .linkBreak := fun _ _ e => nomatch e

theorem breakEnd : Statement .breakEnd := fun _ _ e => nomatch e

theorem replySent : Statement .replySent := fun _ _ e => nomatch e

theorem holdnRelease : Statement .holdnRelease := fun _ _ e => nomatch e

theorem powerOnReset : Statement .powerOnReset := fun _ _ e => nomatch e

theorem settleExpiry : Statement .settleExpiry := fun _ _ e => nomatch e

theorem stepTimerExpiry : Statement .stepTimerExpiry := fun _ _ e => nomatch e

theorem pacerExpiry : Statement .pacerExpiry := fun _ _ e => nomatch e

theorem conversionEnd : Statement .conversionEnd := fun _ _ e => nomatch e

theorem monitorIntervalExpiry : Statement .monitorIntervalExpiry := fun _ _ e => nomatch e

theorem sampleSettleExpiry : Statement .sampleSettleExpiry := fun _ _ e => nomatch e

theorem unitBAbsorb : Statement .unitBAbsorb := fun _ _ e => nomatch e

theorem mapCommitCompletion : Statement .mapCommitCompletion := fun _ _ e => nomatch e

theorem trigEdge : Statement .trigEdge := fun _ _ e => nomatch e

theorem patternEvent : Statement .patternEvent := fun _ _ e => nomatch e

theorem byteReceived (byte : Byte) : Statement (.byteReceived byte) := fun _ _ e => nomatch e

theorem replyByteSent : Statement .replyByteSent := fun _ _ e => nomatch e

theorem comparatorSample : Statement .comparatorSample := fun _ _ e => nomatch e

theorem lineWatcherSample : Statement .lineWatcherSample := fun _ _ e => nomatch e

end Sys2Proof.Laws.FrameFits
end

