-- ==== Sys2Proof/Laws/State.lean ====
section
/-! SUPPORT. What replacing one field of State leaves in each field, true by definition. -/

namespace Sys2Proof.Machine

@[simp] theorem State.update_ps (s : State) (x : ProgramStore) :
    { s with ps := x }.ps = x ∧ { s with ps := x }.seq = s.seq ∧ { s with ps := x }.tu = s.tu ∧
    { s with ps := x }.dl = s.dl ∧ { s with ps := x }.cv = s.cv ∧ { s with ps := x }.fm = s.fm ∧
    { s with ps := x }.tm = s.tm ∧ { s with ps := x }.ck = s.ck ∧ { s with ps := x }.rq = s.rq ∧
    { s with ps := x }.lp = s.lp ∧ { s with ps := x }.pins = s.pins ∧ { s with ps := x }.coming = s.coming ∧
    { s with ps := x }.pending = s.pending :=
  ⟨rfl, rfl, rfl, rfl, rfl, rfl, rfl, rfl, rfl, rfl, rfl, rfl, rfl⟩

@[simp] theorem State.update_seq (s : State) (x : Sequencer) :
    { s with seq := x }.seq = x ∧ { s with seq := x }.ps = s.ps ∧ { s with seq := x }.tu = s.tu ∧
    { s with seq := x }.dl = s.dl ∧ { s with seq := x }.cv = s.cv ∧ { s with seq := x }.fm = s.fm ∧
    { s with seq := x }.tm = s.tm ∧ { s with seq := x }.ck = s.ck ∧ { s with seq := x }.rq = s.rq ∧
    { s with seq := x }.lp = s.lp ∧ { s with seq := x }.pins = s.pins ∧ { s with seq := x }.coming = s.coming ∧
    { s with seq := x }.pending = s.pending :=
  ⟨rfl, rfl, rfl, rfl, rfl, rfl, rfl, rfl, rfl, rfl, rfl, rfl, rfl⟩

@[simp] theorem State.update_tu (s : State) (x : TriggerUnit) :
    { s with tu := x }.tu = x ∧ { s with tu := x }.ps = s.ps ∧ { s with tu := x }.seq = s.seq ∧
    { s with tu := x }.dl = s.dl ∧ { s with tu := x }.cv = s.cv ∧ { s with tu := x }.fm = s.fm ∧
    { s with tu := x }.tm = s.tm ∧ { s with tu := x }.ck = s.ck ∧ { s with tu := x }.rq = s.rq ∧
    { s with tu := x }.lp = s.lp ∧ { s with tu := x }.pins = s.pins ∧ { s with tu := x }.coming = s.coming ∧
    { s with tu := x }.pending = s.pending :=
  ⟨rfl, rfl, rfl, rfl, rfl, rfl, rfl, rfl, rfl, rfl, rfl, rfl, rfl⟩

@[simp] theorem State.update_dl (s : State) (x : DigitalLines) :
    { s with dl := x }.dl = x ∧ { s with dl := x }.ps = s.ps ∧ { s with dl := x }.seq = s.seq ∧
    { s with dl := x }.tu = s.tu ∧ { s with dl := x }.cv = s.cv ∧ { s with dl := x }.fm = s.fm ∧
    { s with dl := x }.tm = s.tm ∧ { s with dl := x }.ck = s.ck ∧ { s with dl := x }.rq = s.rq ∧
    { s with dl := x }.lp = s.lp ∧ { s with dl := x }.pins = s.pins ∧ { s with dl := x }.coming = s.coming ∧
    { s with dl := x }.pending = s.pending :=
  ⟨rfl, rfl, rfl, rfl, rfl, rfl, rfl, rfl, rfl, rfl, rfl, rfl, rfl⟩

@[simp] theorem State.update_cv (s : State) (x : Converter) :
    { s with cv := x }.cv = x ∧ { s with cv := x }.ps = s.ps ∧ { s with cv := x }.seq = s.seq ∧
    { s with cv := x }.tu = s.tu ∧ { s with cv := x }.dl = s.dl ∧ { s with cv := x }.fm = s.fm ∧
    { s with cv := x }.tm = s.tm ∧ { s with cv := x }.ck = s.ck ∧ { s with cv := x }.rq = s.rq ∧
    { s with cv := x }.lp = s.lp ∧ { s with cv := x }.pins = s.pins ∧ { s with cv := x }.coming = s.coming ∧
    { s with cv := x }.pending = s.pending :=
  ⟨rfl, rfl, rfl, rfl, rfl, rfl, rfl, rfl, rfl, rfl, rfl, rfl, rfl⟩

@[simp] theorem State.update_fm (s : State) (x : Formatter) :
    { s with fm := x }.fm = x ∧ { s with fm := x }.ps = s.ps ∧ { s with fm := x }.seq = s.seq ∧
    { s with fm := x }.tu = s.tu ∧ { s with fm := x }.dl = s.dl ∧ { s with fm := x }.cv = s.cv ∧
    { s with fm := x }.tm = s.tm ∧ { s with fm := x }.ck = s.ck ∧ { s with fm := x }.rq = s.rq ∧
    { s with fm := x }.lp = s.lp ∧ { s with fm := x }.pins = s.pins ∧ { s with fm := x }.coming = s.coming ∧
    { s with fm := x }.pending = s.pending :=
  ⟨rfl, rfl, rfl, rfl, rfl, rfl, rfl, rfl, rfl, rfl, rfl, rfl, rfl⟩

@[simp] theorem State.update_tm (s : State) (x : TranslationMap) :
    { s with tm := x }.tm = x ∧ { s with tm := x }.ps = s.ps ∧ { s with tm := x }.seq = s.seq ∧
    { s with tm := x }.tu = s.tu ∧ { s with tm := x }.dl = s.dl ∧ { s with tm := x }.cv = s.cv ∧
    { s with tm := x }.fm = s.fm ∧ { s with tm := x }.ck = s.ck ∧ { s with tm := x }.rq = s.rq ∧
    { s with tm := x }.lp = s.lp ∧ { s with tm := x }.pins = s.pins ∧ { s with tm := x }.coming = s.coming ∧
    { s with tm := x }.pending = s.pending :=
  ⟨rfl, rfl, rfl, rfl, rfl, rfl, rfl, rfl, rfl, rfl, rfl, rfl, rfl⟩

@[simp] theorem State.update_ck (s : State) (x : CheckUnits) :
    { s with ck := x }.ck = x ∧ { s with ck := x }.ps = s.ps ∧ { s with ck := x }.seq = s.seq ∧
    { s with ck := x }.tu = s.tu ∧ { s with ck := x }.dl = s.dl ∧ { s with ck := x }.cv = s.cv ∧
    { s with ck := x }.fm = s.fm ∧ { s with ck := x }.tm = s.tm ∧ { s with ck := x }.rq = s.rq ∧
    { s with ck := x }.lp = s.lp ∧ { s with ck := x }.pins = s.pins ∧ { s with ck := x }.coming = s.coming ∧
    { s with ck := x }.pending = s.pending :=
  ⟨rfl, rfl, rfl, rfl, rfl, rfl, rfl, rfl, rfl, rfl, rfl, rfl, rfl⟩

@[simp] theorem State.update_rq (s : State) (x : ResultQueue) :
    { s with rq := x }.rq = x ∧ { s with rq := x }.ps = s.ps ∧ { s with rq := x }.seq = s.seq ∧
    { s with rq := x }.tu = s.tu ∧ { s with rq := x }.dl = s.dl ∧ { s with rq := x }.cv = s.cv ∧
    { s with rq := x }.fm = s.fm ∧ { s with rq := x }.tm = s.tm ∧ { s with rq := x }.ck = s.ck ∧
    { s with rq := x }.lp = s.lp ∧ { s with rq := x }.pins = s.pins ∧ { s with rq := x }.coming = s.coming ∧
    { s with rq := x }.pending = s.pending :=
  ⟨rfl, rfl, rfl, rfl, rfl, rfl, rfl, rfl, rfl, rfl, rfl, rfl, rfl⟩

@[simp] theorem State.update_lp (s : State) (x : LinkPort) :
    { s with lp := x }.lp = x ∧ { s with lp := x }.ps = s.ps ∧ { s with lp := x }.seq = s.seq ∧
    { s with lp := x }.tu = s.tu ∧ { s with lp := x }.dl = s.dl ∧ { s with lp := x }.cv = s.cv ∧
    { s with lp := x }.fm = s.fm ∧ { s with lp := x }.tm = s.tm ∧ { s with lp := x }.ck = s.ck ∧
    { s with lp := x }.rq = s.rq ∧ { s with lp := x }.pins = s.pins ∧ { s with lp := x }.coming = s.coming ∧
    { s with lp := x }.pending = s.pending :=
  ⟨rfl, rfl, rfl, rfl, rfl, rfl, rfl, rfl, rfl, rfl, rfl, rfl, rfl⟩

@[simp] theorem State.update_pins (s : State) (x : Pins) :
    { s with pins := x }.pins = x ∧ { s with pins := x }.ps = s.ps ∧ { s with pins := x }.seq = s.seq ∧
    { s with pins := x }.tu = s.tu ∧ { s with pins := x }.dl = s.dl ∧ { s with pins := x }.cv = s.cv ∧
    { s with pins := x }.fm = s.fm ∧ { s with pins := x }.tm = s.tm ∧ { s with pins := x }.ck = s.ck ∧
    { s with pins := x }.rq = s.rq ∧ { s with pins := x }.lp = s.lp ∧ { s with pins := x }.coming = s.coming ∧
    { s with pins := x }.pending = s.pending :=
  ⟨rfl, rfl, rfl, rfl, rfl, rfl, rfl, rfl, rfl, rfl, rfl, rfl, rfl⟩

@[simp] theorem State.update_coming (s : State) (x : List Moment) :
    { s with coming := x }.coming = x ∧ { s with coming := x }.ps = s.ps ∧ { s with coming := x }.seq = s.seq ∧
    { s with coming := x }.tu = s.tu ∧ { s with coming := x }.dl = s.dl ∧ { s with coming := x }.cv = s.cv ∧
    { s with coming := x }.fm = s.fm ∧ { s with coming := x }.tm = s.tm ∧ { s with coming := x }.ck = s.ck ∧
    { s with coming := x }.rq = s.rq ∧ { s with coming := x }.lp = s.lp ∧ { s with coming := x }.pins = s.pins ∧
    { s with coming := x }.pending = s.pending :=
  ⟨rfl, rfl, rfl, rfl, rfl, rfl, rfl, rfl, rfl, rfl, rfl, rfl, rfl⟩

@[simp] theorem State.update_pending (s : State) (x : List Instr) :
    { s with pending := x }.pending = x ∧ { s with pending := x }.ps = s.ps ∧ { s with pending := x }.seq = s.seq ∧
    { s with pending := x }.tu = s.tu ∧ { s with pending := x }.dl = s.dl ∧ { s with pending := x }.cv = s.cv ∧
    { s with pending := x }.fm = s.fm ∧ { s with pending := x }.tm = s.tm ∧ { s with pending := x }.ck = s.ck ∧
    { s with pending := x }.rq = s.rq ∧ { s with pending := x }.lp = s.lp ∧ { s with pending := x }.pins = s.pins ∧
    { s with pending := x }.coming = s.coming :=
  ⟨rfl, rfl, rfl, rfl, rfl, rfl, rfl, rfl, rfl, rfl, rfl, rfl, rfl⟩

end Sys2Proof.Machine
end

