-- ==== Sys2Proof/Tests/Slice0.lean ====
section
/-! SUPPORT. The model's own tests: the ill-formed commands the checks refuse, the worked examples of the spec, small steps of every command, and for each statement with hypotheses a state that meets them. -/

set_option Elab.async false

namespace Sys2Proof.Tests

open Sys2Proof.Machine

/-! ## Builders -/

/-- The state after a command, for reading one field of it. -/
def after (c : Instr) (s : State) : State :=
  match exec c s with
  | .next t => t
  | _ => s

/-- A state whose request buffer holds one frame. -/
def asked (kind tag : Byte) (body : List Byte) (s : State) : State := { s with lp.requests := [⟨kind, tag, body⟩] }

/-- The reset state with so many IDENTIFY frames waiting. -/
def withFrames (n : Nat) : State := { State.reset with lp.requests := List.replicate n ⟨0x01, 7, []⟩ }

/-- The reply in the reply buffer: kind, tag, body. -/
def replied (s : State) : Option Frame := s.lp.reply.map (·.reply)

/-- The reset state with the sequencer in some state. -/
def inState (a : AcqState) : State := { State.reset with seq.state := a }

/-- An ANALOG entry on channel 4, one conversion, with a pattern. -/
def sampleEntry : Entry := { Entry.zero with channel := 4, settle := 3, pattern := some 0x2A }

/-- A program of two entries, the second DIGITAL. -/
def programmed (s : State) : State :=
  { s with ps := { slots := ((Vector.replicate 64 Entry.zero).set 0 sampleEntry).set 1 { Entry.zero with source := .digital },
                   length := 2 } }

/-- A step in its settle. -/
def settling : State :=
  programmed { inState (.running .settling) with seq.settle := some 0, seq.ctx.stepInterval := 0 }

/-- A claim of one conversion, at its end, of 2.5 V in BIP10. -/
def claimOf (k : Claimant) : Claim :=
  { claimant := k, channel := 4, range := .bip10, asked := .one, done := 0, sum := 0, overrange := false,
    input := 2500000000000000, left := 0 }

/-- A reply of nine bytes being sent. -/
def sending : Transmission :=
  { reply := { kind := 0x82, tag := 1, body := [1, 2, 3, 4] }, sent := 0, clock := 0, waiting := false, cut := false }

/-- The reply to RESET in its last byte. -/
def resetReply : Transmission :=
  { reply := { kind := 0x85, tag := 1, body := [] }, sent := 4, clock := 0, waiting := false, cut := false }

/-- LRX low for exactly 20 bit times at 19 200. -/
def broken (reply : Option Transmission) : State :=
  { State.reset with pins.lrx := false, lp.lowFor := 1042, lp.reply := reply }

/-! ## Well-formedness: an ill-formed term for each check -/

theorem test_wellformed_request : WellFormed (.drain 5 [16]) = true := by decide

theorem test_illformed_body : WellFormed (.identify 0 (List.replicate 241 0)) = false := by decide +kernel

theorem test_illformed_unknown_kind : WellFormed (.unknownKind 0x20 0 []) = false := by decide

theorem test_wellformed_unknown_kind : WellFormed (.unknownKind 0x7E 0 []) = true := by decide

theorem test_illformed_unknown_body : WellFormed (.unknownKind 0x7E 0 (List.replicate 241 0)) = false := by
  decide +kernel

theorem test_illformed_len : WellFormed (.lenError 240) = false := by decide

theorem test_wellformed_len : WellFormed (.lenError 241) = true := by decide

theorem test_no_table_word : decodeTableWord 8 0xC3 = none := rfl

/-! ## Worked examples of the spec -/

/-- TABLE 4.3. -/
theorem test_table_4_3 :
    convert .bip10 2500000000000000 = (10240, false) ∧ convert .bip10 (-1000000000000) = (8191, false) ∧
    convert .bip10 (-10000000000000000) = (0, false) ∧ convert .bip10 9998800000000000 = (16383, false) ∧
    convert .bip10 10000000000000000 = (16383, true) ∧ convert .bip10 (-10500000000000000) = (0, true) ∧
    convert .bip5 (-1250000000000000) = (6144, false) ∧ convert .bip2 1000000000000000 = (11468, false) ∧
    convert .bip2 2500000000000000 = (16383, true) ∧ convert .uni10 5000000000000000 = (8191, false) ∧
    convert .uni10 (-100000000000000) = (0, true) := by decide

/-- TABLE 4.5: the mean of the codes, rounded down. -/
theorem test_table_4_5 :
    { claimOf .step with asked := .four, sum := 65526 }.rawCode = 16381 ∧
    { claimOf .step with asked := .two, sum := 3 }.rawCode = 1 ∧
    { claimOf .step with asked := .eight, sum := 65533 }.rawCode = 8191 := by decide

/-- The profile of TABLE 5.4: H 12000, L 4000, Y 500. -/
def windowed : Profile := { Profile.powerOn with limits := true, high := 12000, low := 4000, hysteresis := 500 }

/-- TABLE 5.4, its nine steps. -/
theorem test_table_5_4 :
    windowed.zoneAfter .normal 11000 = .normal ∧ windowed.zoneAfter .normal 12100 = .high ∧
    windowed.zoneAfter .high 11800 = .high ∧ windowed.zoneAfter .high 11500 = .normal ∧
    windowed.zoneAfter .normal 12001 = .high ∧ windowed.zoneAfter .high 3900 = .low ∧
    windowed.zoneAfter .low 4300 = .low ∧ windowed.zoneAfter .low 4500 = .normal ∧
    windowed.zoneAfter .normal 12000 = .normal := by decide

/-- TABLE 5.6, one form a line of codes. -/
theorem test_table_5_6 :
    let right := { Profile.powerOn with form := .directRight }
    let left := { Profile.powerOn with form := .directLeft }
    let signed := { Profile.powerOn with form := .signed }
    (right.formValue .powerOn 0 10240).value = 0x2800 ∧ (left.formValue .powerOn 0 10240).value = 0xA000 ∧
    (signed.formValue .powerOn 0 10240).value = 0x0800 ∧ (left.formValue .powerOn 0 16383).value = 0xFFFC ∧
    (signed.formValue .powerOn 0 0).value = 0xE000 ∧ (signed.formValue .powerOn 0 16383).value = 0x1FFF := by
  decide +kernel

/-- A half with two neighbouring entries. -/
def halfWith (i : Nat) (low high : Int) : Vector Word16 256 :=
  ((Vector.replicate 256 0).setIfInBounds i (BitVec.ofInt 16 low)).setIfInBounds (i + 1) (BitVec.ofInt 16 high)

/-- TABLE 5.7, its rows. -/
theorem test_table_5_7 :
    (interpolate (halfWith 100 2000 2130) 6437).toInt = 2075 ∧
    (interpolate (halfWith 40 (-500) (-620)) 2610).toInt = -593 ∧
    (interpolate (halfWith 100 2000 2130) 6400).toInt = 2000 ∧
    (interpolate (halfWith 255 31000 0) 16383).toInt = 31000 ∧
    (interpolate (halfWith 1 (-32768) 32767) 127).toInt = 31743 := by decide +kernel

/-- TABLE 3.4: mask 0x0C, compare 0x04; an event of each mode by its sample and the one before. -/
def watching (mode : PatternMode) (before : Byte) (matched : Bool) (din : Byte) : State :=
  { inState .stopped with
    pins.din := din
    tu := { TriggerUnit.powerOn with cfg := { TriggerConfig.powerOn with mask := 0x0C, compare := 0x04, mode := mode },
                                     cmpWatching := true, cmpDue := true, prevMasked := before,
                                     prevMatch := matched } }

theorem test_table_3_4_match :
    (watching .matching 0x04 false 0x05).isPatternEvent = true ∧ (watching .matching 0x04 true 0x07).isPatternEvent = false ∧
    (watching .matching 0x04 true 0x0F).isPatternEvent = false ∧ (watching .matching 0x0C false 0x0D).isPatternEvent = false ∧
    (watching .matching 0x0C false 0x04).isPatternEvent = true ∧ (watching .matching 0x04 true 0x84).isPatternEvent = false := by
  decide +kernel

theorem test_table_3_4_change :
    (watching .change 0x04 false 0x05).isPatternEvent = false ∧ (watching .change 0x04 true 0x07).isPatternEvent = false ∧
    (watching .change 0x04 true 0x0F).isPatternEvent = true ∧ (watching .change 0x0C false 0x0D).isPatternEvent = false ∧
    (watching .change 0x0C false 0x04).isPatternEvent = true ∧ (watching .change 0x04 true 0x84).isPatternEvent = false := by
  decide +kernel

/-- TABLE 10.14: the source byte of the ANALOG record, the DIGITAL record, the marker, and their lengths. -/
theorem test_table_10_14 :
    let analog : SampleRecord :=
      { step := 2, source := .analog 4, value := 10240, flags := .clear, raw := some 10240, digital := none,
        stamp := some 77 }
    let digital : SampleRecord :=
      { step := 3, source := .digital, value := 0x55, flags := .clear, raw := none, digital := none, stamp := none }
    let marker : PassMarker :=
      { passNumber := 9, status := .complete, sampleCount := 2, missedTicks := 0, residue := 0, loss := false }
    analog.bytes.take 3 = [0x01, 2, 0xA4] ∧ analog.bytes.length = 11 ∧ digital.bytes.take 3 = [0x01, 3, 0x10] ∧
    digital.bytes.length = 6 ∧ marker.bytes.take 2 = [0x02, 0x00] ∧ marker.bytes.length = 10 := by decide

/-- The power-on configuration of a check unit over the words 0x3132, 0x3334. -/
theorem test_residue_words : absorbWords .powerOn 0xFFFF [0x3132, 0x3334] = 0x5349 := by decide +kernel

/-- The zero entry's nine bytes, and the power-on profile's sixteen. -/
theorem test_power_on_bytes :
    Entry.zero.bytes = [0, 0, 0, 1, 0, 0, 0, 0, 0] ∧
    Profile.powerOn.bytes = [0, 0, 0, 0, 0xFF, 0x3F, 0, 0, 0, 0, 0, 0, 0, 0, 0, 0] ∧
    CheckConfig.powerOn.bytes = [16, 0x21, 0x10, 0, 0, 0, 0, 0] := by decide

/-- A frame of the envelope: the bytes LEN to CHK sum to zero. -/
theorem test_frame_bytes : (Frame.mk 0x02 0x01 []).bytes = [0xC3, 0x00, 0x02, 0x01, 0xFD] := by decide

/-! ## One step of each command -/

theorem test_identify :
    replied (after (.identify 7 []) (asked 0x01 7 [] .reset)) =
      some ⟨0x81, 7, [0x57, 0x5A, 0x4E, 0x06, 0x03, 0x40, 0x00, 0x04, 0x10]⟩ := by decide +kernel

/-- A request command from reset is the arrival of its frame and its service (log 2). -/
theorem test_identify_arrives :
    replied (after (.identify 7 []) .reset) =
      some ⟨0x81, 7, [0x57, 0x5A, 0x4E, 0x06, 0x03, 0x40, 0x00, 0x04, 0x10]⟩ := by decide +kernel

/-- While a reply is going out the next request waits in the buffer (R163), and a fifth is lost (R161). -/
theorem test_request_waits :
    (after (.status 8 []) (after (.identify 7 []) .reset)).lp.requests = [⟨0x02, 8, []⟩] ∧
    (after (.status 8 []) (withFrames 4)).lp.requests.length = 4 ∧
    (after (.status 8 []) (withFrames 4)).flag .linkError = true := by decide +kernel

theorem test_status :
    replied (after (.status 7 []) (asked 0x02 7 [] .reset)) =
      some ⟨0x82, 7, [0, 0, 0, 0, 0, 0, 0, 0, 0, 1, 0, 0, 0, 0, 0, 0, 0]⟩ := by decide +kernel

theorem test_clear_power_on_flag :
    replied (after (.clear 7 [1, 0, 0]) (asked 0x03 7 [1, 0, 0] .reset)) = some ⟨0x83, 7, [0, 0]⟩ := by decide +kernel

theorem test_clear_reserved_action :
    replied (after (.clear 7 [0, 0, 0x10]) (asked 0x03 7 [0, 0, 0x10] .reset)) = some ⟨0xFF, 7, [0x03, 0x03]⟩ := by
  decide +kernel

theorem test_empty_queue :
    (after (.emptyQueue 7 0) (asked 0x03 7 [0, 0, 1] { State.reset with rq.lossMark := true })).rq.lossMark = false := by
  decide +kernel

theorem test_erase_program :
    (after (.eraseProgram 7 0) (asked 0x03 7 [0, 0, 2] (programmed .reset))).ps.length = 0 := by decide +kernel

theorem test_erase_program_busy :
    replied (after (.eraseProgram 7 0) (asked 0x03 7 [0, 0, 2] (inState .armed))) = some ⟨0xFF, 7, [0x03, 0x04]⟩ := by
  decide +kernel

theorem test_erase_maps :
    replied (after (.eraseMaps 7 1) (asked 0x03 7 [1, 0, 4] .reset)) = some ⟨0x83, 7, [0, 0]⟩ := by decide +kernel

theorem test_rest_outputs :
    (after (.restOutputs 7 0) (asked 0x03 7 [0, 0, 8] { State.reset with dl.rest := 0x0F })).dl.latch = 0x0F := by
  decide +kernel

theorem test_attention_set :
    (after (.attentionSet 7 [1, 0]) (asked 0x04 7 [1, 0] .reset)).lp.mask = 1 ∧
    attn (after (.attentionSet 7 [1, 0]) (asked 0x04 7 [1, 0] .reset)) = true := by decide +kernel

theorem test_reset :
    replied (after (.reset 7 []) (asked 0x05 7 [] .reset)) = some ⟨0x85, 7, []⟩ := by decide +kernel

theorem test_program_load :
    (after (.programLoad 7 [0, 1, 0, 4, 0, 1, 0, 4, 0x2A, 3, 0])
      (asked 0x10 7 [0, 1, 0, 4, 0, 1, 0, 4, 0x2A, 3, 0] .reset)).ps.slots.get 0 = sampleEntry := by decide +kernel

theorem test_program_load_gap :
    replied (after (.programLoad 7 [1, 1, 0, 4, 0, 1, 0, 4, 0x2A, 3, 0])
      (asked 0x10 7 [1, 1, 0, 4, 0, 1, 0, 4, 0x2A, 3, 0] .reset)) = some ⟨0xFF, 7, [0x10, 0x06]⟩ := by decide +kernel

theorem test_program_trim :
    (after (.programTrim 7 [1]) (asked 0x11 7 [1] (programmed .reset))).ps.length = 1 := by decide +kernel

theorem test_program_read :
    replied (after (.programRead 7 [0, 1]) (asked 0x12 7 [0, 1] (programmed .reset))) =
      some ⟨0x92, 7, [2, 0, 1, 0, 4, 0, 1, 0, 4, 0x2A, 3, 0]⟩ := by decide +kernel

theorem test_trigger_set :
    (after (.triggerSet 7 [1, 0x0C, 4, 1, 1, 2, 3, 0, 0x10, 1, 10, 0])
      (asked 0x18 7 [1, 0x0C, 4, 1, 1, 2, 3, 0, 0x10, 1, 10, 0] .reset)).tu.cfg =
      { polarity := .falling, mask := 0x0C, compare := 4, mode := .change, sampling := .pacer, monitorChannel := 2,
        monitorRange := .uni10, threshold := 4096, direction := .below, monitorInterval := 10 } := by decide +kernel

theorem test_output_set :
    (after (.outputSet 7 [1, 0xAA, 0x55]) (asked 0x19 7 [1, 0xAA, 0x55] .reset)).dl = ⟨0xAA, 0x55⟩ := by decide +kernel

/-- ARM with start source NOW: the first step settles with its pattern on the outputs. -/
theorem test_arm_now :
    let t := after (.arm 7 [1, 0, 0, 0, 0, 0, 0, 0, 0, 0, 0, 0, 2])
      (asked 0x20 7 [1, 0, 0, 0, 0, 0, 0, 0, 0, 0, 0, 0, 2] (programmed .reset))
    replied t = some ⟨0xA0, 7, [2]⟩ ∧ t.seq.state = .running .settling ∧ t.seq.settle = some 3 ∧
      t.seq.passNumber = 1 ∧ t.dl.latch = 0x2A ∧ t.flag .triggered = true := by decide +kernel

theorem test_arm_no_program :
    replied (after (.arm 7 [1, 0, 0, 0, 0, 0, 0, 0, 0, 0, 0, 0, 2])
      (asked 0x20 7 [1, 0, 0, 0, 0, 0, 0, 0, 0, 0, 0, 0, 2] .reset)) = some ⟨0xFF, 7, [0x20, 0x05]⟩ := by decide +kernel

theorem test_stop_in_pass :
    let t := after (.stop 7 []) (asked 0x21 7 [] { settling with seq.sampleCount := 1, seq.stepIndex := 1 })
    replied t = some ⟨0xA1, 7, [2]⟩ ∧ t.seq.state = .stopped ∧ t.rq.records.length = 1 ∧ t.flag .runEnd = true := by
  decide +kernel

theorem test_resume :
    let t := after (.resume 7 []) (asked 0x22 7 [] (programmed (inState .paused)))
    replied t = some ⟨0xA2, 7, [2, 0]⟩ ∧ t.dl.latch = 0x2A ∧ t.seq.settle = some 3 := by decide +kernel

theorem test_sample :
    (after (.sample 7 [4, 0, 1, 0, 2, 0]) (asked 0x28 7 [4, 0, 1, 0, 2, 0] .reset)).lp.service =
      .sampleSettling 7 { channel := 4, range := .bip10, averaging := .one, profile := 0, settle := 2 } 2 := by
  decide +kernel

theorem test_profile_set_staged :
    let t := after (.profileSet 7 (3 :: windowed.bytes)) (asked 0x30 7 (3 :: windowed.bytes) (inState .waiting))
    replied t = some ⟨0xB0, 7, [3, 1]⟩ ∧ t.fm.staged.get 3 = some windowed := by decide +kernel

theorem test_profile_read :
    replied (after (.profileRead 7 [3]) (asked 0x31 7 [3] .reset)) =
      some ⟨0xB1, 7, [3, 0, 0, 0, 0, 0xFF, 0x3F, 0, 0, 0, 0, 0, 0, 0, 0, 0, 0, 0]⟩ := by decide +kernel

theorem test_substitute_set :
    (after (.substituteSet 7 [15, 1, 0x34, 0x12]) (asked 0x32 7 [15, 1, 0x34, 0x12] .reset)).fm.subst.get 15 = 0x1234 := by
  decide +kernel

theorem test_map_load :
    let t := after (.mapLoad 7 [2, 255, 1, 0x34, 0x12]) (asked 0x38 7 [2, 255, 1, 0x34, 0x12] .reset)
    replied t = some ⟨0xB8, 7, [2, 1, 1]⟩ ∧ (t.tm.pages.get 2).entriesB.get 255 = 0x1234 ∧
      (t.tm.pages.get 2).stateB = .loading := by decide +kernel

/-- A page with its half B loaded. -/
def loaded (state : HalfState) : State :=
  { State.reset with tm.pages := State.reset.tm.pages.set 2 { Page.erased with stateB := state } }

theorem test_map_commit :
    (after (.mapCommit 7 [2, 0, 0, 0, 0]) (asked 0x39 7 [2, 0, 0, 0, 0] (loaded .loading))).ck.job = some (2, .b) := by
  decide +kernel

theorem test_map_swap :
    replied (after (.mapSwap 7 [2]) (asked 0x3A 7 [2] (loaded .checked))) = some ⟨0xBA, 7, [2, 0, 1]⟩ := by decide +kernel

theorem test_map_read :
    replied (after (.mapRead 7 [2, 1, 0, 1]) (asked 0x3B 7 [2, 1, 0, 1] (loaded .checked))) =
      some ⟨0xBB, 7, [2, 0, 0, 2, 0, 0, 0, 0, 0, 1, 0, 1, 0, 0]⟩ := by decide +kernel

theorem test_check_set :
    (after (.checkSet 7 [0, 8, 7, 0, 0, 0, 1, 0, 0]) (asked 0x40 7 [0, 8, 7, 0, 0, 0, 1, 0, 0] .reset)).ck.a =
      { cfg := { width := 8, polynomial := 7, initial := .zero, order := .msbFirst, invert := false }, residue := 0 } := by
  decide +kernel

/-- A queue of one DIGITAL record. -/
def oneRecord : List Record :=
  [.sample { step := 3, source := .digital, value := 0x55, flags := .clear, raw := none, digital := none, stamp := none }]

theorem test_drain :
    let t := after (.drain 7 [16]) (asked 0x48 7 [16] { State.reset with rq.records := oneRecord, rq.lossMark := true })
    replied t = some ⟨0xC8, 7, [1, 0, 0, 0x01, 3, 0x10, 0x55, 0, 0x40]⟩ ∧ t.rq.records = [] ∧ t.rq.lossMark = false := by
  decide +kernel

theorem test_unknown_kind :
    replied (after (.unknownKind 0x7E 7 [1]) (asked 0x7E 7 [1] .reset)) = some ⟨0xFF, 7, [0x7E, 0x01]⟩ := by
  decide +kernel

theorem test_frame_complete :
    let s : State := { State.reset with lp.rx := .check 0 0x02 1 [], lp.gap := some 9 }
    (after (.frameComplete 0xFD) s).lp.requests = [⟨0x02, 1, []⟩] ∧
    (after (.frameComplete 0xFE) s).flag .linkError = true := by decide +kernel

theorem test_len_error :
    (after (.lenError 241) { State.reset with lp.rx := .headerLen, lp.gap := some 9 }).flag .linkError = true := by
  decide +kernel

theorem test_gap_timeout :
    (after .gapTimeout { State.reset with lp.rx := .headerLen, lp.gap := some 5001 }).lp.rx = .hunt ∧
    (after .gapTimeout { State.reset with lp.rx := .headerLen, lp.gap := some 5000 }).lp.rx = .headerLen := by
  decide +kernel

/-- After too long a gap the next byte is judged in HUNT (R159). -/
theorem test_byte_after_gap :
    (after (.byteReceived 0xC3) { State.reset with lp.rx := .body 3 0x10 1 [5], lp.gap := some 9000 }).lp.rx = .headerLen ∧
    (after (.byteReceived 0x10) { State.reset with lp.rx := .headerLen, lp.gap := some 9000 }).flag .linkError = true := by
  decide +kernel

/-- The part takes its own timeout, and a start bit at 5000 microseconds stops the timer. -/
theorem test_gap_due :
    { State.reset with lp.rx := .headerLen, lp.gap := some 5001 }.due = some .gapTimeout ∧
    (tick { State.reset with lp.rx := .headerLen, lp.gap := some 4999, pins.lrx := false }).lp.gap = none ∧
    (tick { State.reset with lp.rx := .headerLen, lp.gap := some 5000, pins.lrx := false }).lp.gap = some 5001 := by
  decide +kernel

theorem test_framing_error :
    (after .framingError { State.reset with lp.rx := .headerLen, lp.gap := some 1 }).flag .linkError = true ∧
    (after .framingError .reset).flag .linkError = false := by decide +kernel

/-- A byte whose stop bit is low while LRX stays low: the receiver waits, takes the framing error as LRX rises, and takes
none where the break comes first (R160). -/
theorem test_framing_wait :
    let waiting := after .framingError { State.reset with lp.rx := .headerLen, pins.lrx := false }
    waiting.lp.badStop = true ∧ waiting.flag .linkError = false ∧ waiting.due = none ∧
    { waiting with pins.lrx := true }.due = some .framingError ∧
    (after .framingError { waiting with pins.lrx := true }).flag .linkError = true ∧
    { waiting with lp.lowFor := 1042 }.due = some .linkBreak ∧
    (after .linkBreak { waiting with lp.lowFor := 1042 }).lp.badStop = false := by decide +kernel

/-- A byte is received only where its ten bit times have passed since the reset, a frame only where all its bytes have
(R183): 521 microseconds for one byte at 19 200, 2605 for the five bytes of IDENTIFY, 4167 for the eight of a CLEAR. -/
theorem test_reset_bytes :
    let arriving (since : Nat) (m : Moment) : List Instr :=
      (tick { State.reset with lp.sinceReset := since * 19200, coming := [m] }).pending
    arriving 519 ⟨.rest, byteLevels 0xC3, []⟩ = [] ∧ arriving 520 ⟨.rest, byteLevels 0xC3, []⟩ = [.byteReceived 0xC3] ∧
    arriving 2603 ⟨.rest, [], [.identify 1 []]⟩ = [] ∧
    arriving 2604 ⟨.rest, [], [.identify 1 []]⟩ = [.identify 1 []] ∧
    arriving 4165 ⟨.rest, [], [.emptyQueue 1 0]⟩ = [] ∧ arriving 4166 ⟨.rest, [], [.emptyQueue 1 0]⟩ = [.emptyQueue 1 0] ∧
    arriving 2604 ⟨.rest, byteLevels 0xC3, [.powerOnReset]⟩ = [.powerOnReset] ∧
    (tick { State.reset with lp.sinceReset := 50000000, pins.rstn := false,
                             coming := [⟨.rest, byteLevels 0xC3, []⟩] }).pending = [] := by decide +kernel

theorem test_break :
    (after .linkBreak (asked 0x02 1 [] { State.reset with pins.lrx := false, lp.lowFor := 1042 })).lp.requests = [] := by
  decide +kernel

theorem test_break_end : (after .breakEnd { State.reset with lp.inBreak := true }).lp.inBreak = false := by
  decide +kernel

theorem test_reply_byte_sent :
    (after .replyByteSent { State.reset with lp.reply := some sending, pins.holdn := false }).lp.reply =
      some { sending with sent := 1, waiting := true } := by decide +kernel

/-- At 19 200 a byte goes out in 521 whole microseconds (R156), and then it ends by itself. -/
theorem test_reply_byte_due :
    { State.reset with lp.reply := some { sending with clock := 520 * 19200 } }.due = none ∧
    { State.reset with lp.reply := some { sending with clock := 521 * 19200 } }.due = some .replyByteSent ∧
    { State.reset with lp.reply := some { sending with clock := 521 * 19200, sent := 8 } }.due = some .replySent := by
  decide +kernel

/-- LTX sends the start byte 0xC3: low, 1, 1, 0, 0, 0, 0, 1, 1, high; at rest it is high. -/
theorem test_ltx :
    ((List.range 10).map fun k => ltx { State.reset with lp.reply := some { sending with clock := k * 1000000 } }) =
      [false, true, true, false, false, false, false, true, true, true] ∧
    ltx State.reset = true ∧ ltx { State.reset with lp.reply := some { sending with waiting := true } } = true := by
  decide +kernel

/-- The levels of 0xC3 on LRX, and the same with its stop bit low. -/
theorem test_line_command :
    lineCommand [false, true, true, false, false, false, false, true, true, true] = some (.byteReceived 0xC3) ∧
    lineCommand [false, true, true, false, false, false, false, true, true, false] = some .framingError := by decide

theorem test_reply_sent :
    (after .replySent { State.reset with lp.reply := some { sending with sent := 8 } }).lp.reply = none := by
  decide +kernel

/-- The reply to RESET, sent in full, stops the run and clears the flags. -/
theorem test_reset_effect :
    let r : Transmission := resetReply
    let t := after .replySent { inState .armed with lp.reply := some r, dl.rest := 0x0F }
    t.seq.state = .stopped ∧ t.seq.endCause = .reset ∧ t.lp.flags = 0 ∧ t.dl.latch = 0x0F := by decide +kernel

/-- A break cuts the reply to RESET: the reset takes effect and LINK_BREAK alone stands (R168). -/
theorem test_reset_cut :
    (after .linkBreak (broken (some { resetReply with waiting := true }))).lp.flags = Flag.linkBreak.bit ∧
    (after .replySent (broken (some { resetReply with cut := true }))).lp.flags = Flag.linkBreak.bit := by decide +kernel

theorem test_holdn_release :
    (after .holdnRelease { State.reset with lp.reply := some { sending with waiting := true } }).lp.reply =
      some sending := by decide +kernel

theorem test_power_on_reset :
    let t := after .powerOnReset { settling with pins.spd1 := true, pins.spd0 := true }
    t.seq.state = .stopped ∧ t.ps.length = 0 ∧ t.lp.speed = .s460800 ∧ t.lp.flags = 1 := by decide +kernel

theorem test_settle_expiry :
    (after .settleExpiry { settling with pins.din := 0x55 }).cv.claim.map (·.channel) = some 4 ∧
    (after .settleExpiry { settling with pins.din := 0x55 }).fm.heldByte = 0x55 := by decide +kernel

/-- The last step, DIGITAL: its record, the COMPLETE marker, and the next pass. -/
theorem test_settle_expiry_digital :
    let t := after .settleExpiry { settling with seq.stepIndex := 1, seq.sampleCount := 1 }
    t.rq.records.length = 2 ∧ t.flag .passEnd = true ∧ t.seq.stepIndex = 0 ∧ t.seq.sampleCount = 0 := by decide +kernel

theorem test_step_timer_expiry :
    (after .stepTimerExpiry { programmed (inState (.running .spacing)) with seq.stepTimer := .running 0 }).seq.stepIndex = 1 := by
  decide +kernel

theorem test_pacer_expiry :
    (after .pacerExpiry { settling with seq.pacer := some 0, seq.ctx.passInterval := 100 }).seq.missedTicks = 1 ∧
    (after .pacerExpiry { programmed (inState .waiting) with seq.pacer := some 0 }).seq.passNumber = 1 := by
  decide +kernel

theorem test_conversion_end_step :
    let t := after .conversionEnd { programmed (inState (.running .converting)) with cv.claim := some (claimOf .step) }
    t.cv.claim = none ∧ t.seq.state = .running .spacing ∧
      t.rq.records = [.sample { step := 0, source := .analog 4, value := 10240, flags := .clear, raw := none,
                                digital := none, stamp := none }] := by decide +kernel

theorem test_conversion_end_next :
    ((after .conversionEnd { inState (.running .converting) with
      cv.claim := some { claimOf .step with asked := .two } }).cv.claim.map fun c => (c.done, c.sum, c.left)) =
      some (1, 10240, 5) := by decide +kernel

theorem test_monitor_interval_expiry :
    (after .monitorIntervalExpiry { inState .armed with tu.monitor := .timing, tu.monitorTimer := some 0 }).tu.monitor =
      .converting := by decide +kernel

theorem test_sample_settle_expiry :
    (after .sampleSettleExpiry { State.reset with lp.service := .sampleSettling 7 ⟨4, .bip10, .one, 0, 2⟩ 0,
                                                  pins.din := 0x55 }).lp.service =
      .sampleConverting 7 ⟨4, .bip10, .one, 0, 2⟩ 0x55 := by decide +kernel

theorem test_unit_b_absorb :
    (after .unitBAbsorb { State.reset with ck.job := some (2, .b), ck.absorbDue := true }).ck.entryCount = 1 := by
  decide +kernel

theorem test_map_commit_completion :
    let t := after .mapCommitCompletion
      { loaded .loading with ck.job := some (2, .b), ck.entryCount := 256, lp.service := .commit 7 0xFFFF }
    (t.tm.pages.get 2).stateB = .checked ∧ replied t = some ⟨0xB9, 7, [2, 1, 0xFF, 0xFF, 0, 0, 2]⟩ := by decide +kernel

/-- A watcher with a rising edge in hand. -/
def edge (s : State) : State :=
  { s with tu := { s.tu with lineWatching := true, lineDue := true, lineLevel := false }, pins.trig := true }

theorem test_trig_edge :
    (after .trigEdge (edge { programmed (inState .armed) with seq.ctx.start := .line })).seq.state =
      .running .settling := by decide +kernel

theorem test_pattern_event :
    (after .patternEvent (watching .matching 0x04 false 0x05)).flag .pattern = true := by decide +kernel

theorem test_byte_received :
    (after (.byteReceived 0xC3) .reset).lp.rx = .headerLen ∧ (after (.byteReceived 0xC2) .reset).lp.rx = .hunt := by
  decide +kernel

theorem test_comparator_sample :
    (after .comparatorSample (watching .matching 0x04 true 0x0F)).tu.prevMasked = 0x0C := by decide +kernel

theorem test_line_watcher_sample :
    (after .lineWatcherSample (edge { State.reset with tu.cfg.polarity := .falling })).tu.lineLevel = true := by
  decide +kernel

/-- An idle part lets a microsecond pass, and what the outside brings lands in it. -/
theorem test_tick :
    (tick { State.reset with lp.sinceReset := 10000000,
                             coming := [⟨.rest, byteLevels 0xC3, [.gapTimeout]⟩] }).pending =
      [.byteReceived 0xC3, .gapTimeout] := by decide +kernel

/-! ## States that meet the statements' hypotheses, clause by clause, at the ends of their ranges -/

theorem asked_ready {s : State} (kind tag : Byte) (body : List Byte) (idle : s.lp.service = .idle)
    (empty : s.lp.reply = none) : (asked kind tag body s).ready ⟨kind, tag, body⟩ [] := ⟨idle, empty, rfl⟩

/-- What the outside brings, with RSTN at a level. -/
def moment (rstn : Bool) : Moment := { pins := { Pins.rest with rstn := rstn }, line := [], commands := [] }

theorem witness_IdleStepTakesDueEventOrTick :
    State.reset.pending = [] ∧ State.reset.due = none ∧ (asked 0x02 1 [] .reset).due = some (requestCommand 0x02 1 []) ∧
    (asked 0x02 1 [] .reset).eventDue (.status 1 []) ∧ settling.due = some .settleExpiry ∧ settling.eventDue .settleExpiry :=
  ⟨rfl, by decide +kernel, by decide +kernel, ⟨⟨0x02, 1, []⟩, [], asked_ready _ _ _ rfl rfl, by decide⟩, by decide +kernel,
    ⟨rfl, rfl⟩⟩

theorem witness_OneMicrosecondOfTime :
    (State.reset.pins.rstn = true ∧ State.reset.coming = []) ∧
    ((inState .armed).seq.stepTimer ≠ .running 0 ∧ { State.reset with seq.stepTimer := .running 1 }.seq.stepTimer = .running 1) ∧
    ({ State.reset with lp.service := .sampleSettling 1 ⟨0, .bip10, .one, 0, 9⟩ 9 }.lp.service =
      .sampleSettling 1 ⟨0, .bip10, .one, 0, 9⟩ 9) ∧
    ({ State.reset with coming := [moment true] }.coming = [moment true] ∧ (moment true).pins.rstn = true) ∧
    (moment true).line = [] ∧ { moment true with line := byteLevels 0xC3 }.line = byteLevels 0xC3 ∧
    { State.reset with lp.gap := some 4999, pins.lrx := false }.lp.gap.getD 0 < 5000 ∧
    (moment false).pins.rstn = false ∧ { State.reset with pins.rstn := false }.pins.rstn = false := by decide +kernel

theorem witness_LinkPortRequests :
    (asked 0x01 1 [] .reset).ready ⟨0x01, 1, []⟩ [] ∧ (asked 0x02 1 [] .reset).ready ⟨0x02, 1, []⟩ [] ∧
    (asked 0x05 1 [] .reset).ready ⟨0x05, 1, []⟩ [] ∧ (asked 0x7E 1 [] .reset).ready ⟨0x7E, 1, []⟩ [] ∧
    (0x7E : Byte) ∉ fixedLengths.map (·.1) ++ countedLengths.map (·.1) :=
  ⟨asked_ready _ _ _ rfl rfl, asked_ready _ _ _ rfl rfl, asked_ready _ _ _ rfl rfl, asked_ready _ _ _ rfl rfl,
    by decide⟩

/-- The unready clause at its ends: no line, a gap too long, a full buffer, a free port, a reply still going out. -/
theorem witness_RequestsAreServedByKind_unready :
    (∀ rest, ¬ { State.reset with lp.inBreak := true }.ready ⟨0x02, 1, []⟩ rest) ∧
    (∀ rest, ¬ { State.reset with lp.badStop := true }.ready ⟨0x02, 1, []⟩ rest) ∧
    (∀ rest, ¬ { State.reset with lp.rx := .headerLen, lp.gap := some 5001 }.ready ⟨0x02, 1, []⟩ rest) ∧
    (∀ rest, ¬ (withFrames 4).ready ⟨0x02, 1, []⟩ rest) ∧ (withFrames 4).lp.requests.length = 4 ∧
    (∀ rest, ¬ State.reset.ready ⟨0x02, 1, []⟩ rest) ∧
    (∀ rest, ¬ (after (.identify 7 []) .reset).ready ⟨0x02, 1, []⟩ rest) :=
  ⟨fun _ h => (nomatch h.2.2), fun _ h => (nomatch h.2.2), fun _ h => (nomatch h.2.2),
    fun _ h => (nomatch (List.cons.inj h.2.2).1), rfl, fun _ h => (nomatch h.2.2), fun _ h => (nomatch h.2.1)⟩

theorem witness_ClearTakesFlagsThenActions :
    (asked 0x03 1 [0xFF, 0x3F, 0x0F] .reset).ready ⟨0x03, 1, [0xFF, 0x3F, 0x0F]⟩ [] ∧ num16 0xFF 0x3F = 16383 ∧
    (15 : Byte).toNat < 16 ∧ State.reset.seq.state = .stopped ∧ State.reset.rq.held = none ∧
    16384 ≤ num16 0x00 0x40 ∧ (asked 0x03 1 [0x00, 0x40, 0x00] .reset).ready ⟨0x03, 1, [0x00, 0x40, 0x00]⟩ [] ∧
    (asked 0x03 1 [0, 0, 2] (inState .armed)).ready ⟨0x03, 1, [0, 0, 2]⟩ [] ∧ (inState .armed).seq.state ≠ .stopped :=
  ⟨asked_ready _ _ _ rfl rfl, by decide, by decide, rfl, rfl, by decide, asked_ready _ _ _ rfl rfl,
    asked_ready _ _ _ rfl rfl, by decide +kernel⟩

theorem witness_SingleActionsOfClear :
    (0x3FFF : BitVec 16).toNat < 16384 ∧
    (∀ a : Byte, (asked 0x03 1 (bytesLE 2 0x3FFF ++ [a]) .reset).ready ⟨0x03, 1, bytesLE 2 0x3FFF ++ [a]⟩ []) ∧
    (∀ a : Byte, (asked 0x03 1 (bytesLE 2 0x3FFF ++ [a]) (inState .armed)).ready ⟨0x03, 1, bytesLE 2 0x3FFF ++ [a]⟩ []) ∧
    State.reset.rq.held = none ∧ State.reset.seq.state = .stopped ∧ (inState .armed).seq.state ≠ .stopped :=
  ⟨by decide, fun _ => asked_ready _ _ _ rfl rfl, fun _ => asked_ready _ _ _ rfl rfl, rfl, rfl, by decide +kernel⟩

theorem witness_AttentionSetReplacesMask :
    (asked 0x04 1 [0xFF, 0x3F] .reset).ready ⟨0x04, 1, [0xFF, 0x3F]⟩ [] ∧ num16 0xFF 0x3F < 16384 ∧
    (asked 0x04 1 [0, 0x40] .reset).ready ⟨0x04, 1, [0, 0x40]⟩ [] ∧ 16384 ≤ num16 0 0x40 :=
  ⟨asked_ready _ _ _ rfl rfl, by decide, asked_ready _ _ _ rfl rfl, by decide⟩

theorem witness_ResetTakesEffectAfterItsReply :
    let r : Transmission := resetReply
    { inState .armed with lp.reply := some r }.lp.reply = some r ∧ r.reply.kind = 0x85 ∧ r.sent + 1 = r.reply.size ∧
    { r with sent := 3, cut := true }.sent + 1 < r.reply.size ∧ { r with cut := true }.cut = true ∧
    (broken (some { r with waiting := true })).lp.reply = some { r with waiting := true } ∧
    breakTime (broken none).lp.speed ≤ (broken none).lp.lowFor ∧ (broken none).pins.lrx = false ∧
    (inState .armed).seq.state ≠ .stopped ∧ State.reset.seq.state = .stopped := by decide +kernel

theorem witness_BadLengthIsRefused :
    (asked 0x48 1 [] .reset).ready ⟨0x48, 1, []⟩ [] ∧ ((0x48 : Byte), 1) ∈ fixedLengths ∧ ([] : List Byte).length ≠ 1 ∧
    (asked 0x38 1 [0, 0] .reset).ready ⟨0x38, 1, [0, 0]⟩ [] ∧ ((0x38 : Byte), 2, 2) ∈ countedLengths ∧
    ([0, 0] : List Byte).length ≤ 2 ∧ (asked 0x38 1 [0, 0, 1] .reset).ready ⟨0x38, 1, [0, 0, 1]⟩ [] ∧
    ([0, 0, 1] : List Byte)[2]? = some 1 ∧ ([0, 0, 1] : List Byte).length ≠ 2 + 1 + 2 * (1 : Byte).toNat :=
  ⟨asked_ready _ _ _ rfl rfl, by decide, by decide, asked_ready _ _ _ rfl rfl, by decide, by decide,
    asked_ready _ _ _ rfl rfl, by decide, by decide⟩

/-- A full program. -/
def fullProgram : State := { State.reset with ps.length := 64 }

theorem witness_ProgramLoadWritesSlots :
    (∀ (s : State) (start n : Byte) (bytes : List Byte), s.lp.service = .idle → s.lp.reply = none →
      (asked 0x10 1 (start :: n :: bytes) s).ready ⟨0x10, 1, start :: n :: bytes⟩ []) ∧
    (inState .armed).seq.state ≠ .stopped ∧ fullProgram.seq.state = .stopped ∧
    Entry.zero.bytes.length = 9 * (1 : Byte).toNat ∧ entries? 1 Entry.zero.bytes = some [Entry.zero] ∧
    (63 : Byte).toNat + (1 : Byte).toNat ≤ 64 ∧ (63 : Byte).toNat ≤ fullProgram.ps.length ∧
    64 < (64 : Byte).toNat + (1 : Byte).toNat ∧ State.reset.ps.length < (1 : Byte).toNat ∧
    entries? 1 [2, 0, 0, 1, 0, 0, 0, 0, 0] = none ∧ (9 : Byte).toNat > 8 ∧
    (List.replicate 81 (0 : Byte)).length = 9 * (9 : Byte).toNat :=
  ⟨fun _ _ _ _ i e => asked_ready _ _ _ i e, by decide +kernel, rfl, by decide, by decide, by decide, by decide, by decide,
    by decide, by decide, by decide, by decide⟩

theorem witness_ProgramTrimSetsLength :
    (asked 0x11 1 [64] fullProgram).ready ⟨0x11, 1, [64]⟩ [] ∧ (64 : Byte).toNat ≤ fullProgram.ps.length ∧
    (asked 0x11 1 [65] fullProgram).ready ⟨0x11, 1, [65]⟩ [] ∧ fullProgram.ps.length < (65 : Byte).toNat ∧
    (asked 0x11 1 [0] (inState .armed)).ready ⟨0x11, 1, [0]⟩ [] :=
  ⟨asked_ready _ _ _ rfl rfl, by decide, asked_ready _ _ _ rfl rfl, by decide, asked_ready _ _ _ rfl rfl⟩

theorem witness_ReadsReturnWhatIsStored :
    (asked 0x12 1 [56, 8] fullProgram).ready ⟨0x12, 1, [56, 8]⟩ [] ∧ (56 : Byte).toNat + (8 : Byte).toNat ≤ fullProgram.ps.length ∧
    (asked 0x12 1 [57, 8] fullProgram).ready ⟨0x12, 1, [57, 8]⟩ [] ∧ (asked 0x12 1 [0, 9] .reset).ready ⟨0x12, 1, [0, 9]⟩ [] ∧
    (asked 0x31 1 [15] .reset).ready ⟨0x31, 1, [15]⟩ [] ∧ (asked 0x31 1 [16] .reset).ready ⟨0x31, 1, [16]⟩ [] ∧
    (asked 0x3B 1 [15, 1, 192, 64] .reset).ready ⟨0x3B, 1, [15, 1, 192, 64]⟩ [] ∧ (1 : Byte) = Half.b.byte ∧
    (192 : Byte).toNat + (64 : Byte).toNat ≤ 256 ∧
    (asked 0x3B 1 [0, 0, 193, 64] .reset).ready ⟨0x3B, 1, [0, 0, 193, 64]⟩ [] ∧
    (asked 0x3B 1 [16, 2, 0, 65] .reset).ready ⟨0x3B, 1, [16, 2, 0, 65]⟩ [] :=
  ⟨asked_ready _ _ _ rfl rfl, by decide, asked_ready _ _ _ rfl rfl, asked_ready _ _ _ rfl rfl, asked_ready _ _ _ rfl rfl,
    asked_ready _ _ _ rfl rfl, asked_ready _ _ _ rfl rfl, rfl, by decide, asked_ready _ _ _ rfl rfl,
    asked_ready _ _ _ rfl rfl⟩

theorem witness_TriggerSetReplacesConfiguration :
    TriggerConfig.powerOn.bytes.length = 12 ∧ trigger? TriggerConfig.powerOn.bytes = some .powerOn ∧
    trigger? [0, 0, 0, 0, 0, 0, 0, 0, 0, 0, 9, 0] = none ∧ (inState .armed).seq.state ≠ .stopped ∧
    (asked 0x18 1 TriggerConfig.powerOn.bytes .reset).ready ⟨0x18, 1, TriggerConfig.powerOn.bytes⟩ [] :=
  ⟨by decide, by decide, by decide, by decide +kernel, asked_ready _ _ _ rfl rfl⟩

theorem witness_OutputSetStoresRestAndValue :
    (asked 0x19 1 [0, 1, 2] (inState .paused)).ready ⟨0x19, 1, [0, 1, 2]⟩ [] ∧
    (asked 0x19 1 [1, 1, 2] (inState .paused)).ready ⟨0x19, 1, [1, 1, 2]⟩ [] ∧ (inState .paused).seq.state ≠ .stopped ∧
    (asked 0x19 1 [1, 1, 2] .reset).ready ⟨0x19, 1, [1, 1, 2]⟩ [] ∧ State.reset.seq.state = .stopped ∧
    (asked 0x19 1 [2, 1, 2] .reset).ready ⟨0x19, 1, [2, 1, 2]⟩ [] :=
  ⟨asked_ready _ _ _ rfl rfl, asked_ready _ _ _ rfl rfl, by decide +kernel, asked_ready _ _ _ rfl rfl, rfl,
    asked_ready _ _ _ rfl rfl⟩

/-- ARM fields with a start source, at the least pass interval and the greatest level. -/
def armed (start : StartSource) : ArmFields :=
  { ctx := { passLimit := 1, passInterval := 100, stepInterval := 0, start := start, stopLine := true,
             stopPattern := false, stopLimit := true, release := .request },
    policy := .discard, level := 1024 }

theorem witness_ArmPreparesTheRun :
    (∀ f : ArmFields, (asked 0x20 1 f.bytes (programmed .reset)).ready ⟨0x20, 1, f.bytes⟩ []) ∧
    (∀ start ∈ [StartSource.now, .line, .pattern, .level],
      (armed start).bytes.length = 13 ∧ arm? (armed start).bytes = some (armed start)) ∧
    (programmed .reset).seq.state = .stopped ∧ (programmed .reset).ps.length ≠ 0 ∧ State.reset.ps.length = 0 ∧
    arm? [0, 0, 99, 0, 0, 0, 0, 0, 0, 0, 0, 1, 0] = none ∧ arm? [0, 0, 0, 0, 0, 0, 0, 0, 1, 1, 0, 1, 0] = none ∧
    (inState .waiting).seq.state ≠ .stopped :=
  ⟨fun _ => asked_ready _ _ _ rfl rfl, by decide, rfl, by decide, rfl, by decide, by decide, by decide +kernel⟩

theorem witness_StopEndsTheRun :
    (∀ a : AcqState, (asked 0x21 1 [] (inState a)).ready ⟨0x21, 1, []⟩ []) ∧ (inState .armed).rq.held = none ∧
    (inState .halted).seq.state ≠ .stopped ∧ (inState .halted).seq.state ≠ .armed :=
  ⟨fun _ => asked_ready _ _ _ rfl rfl, rfl, by decide +kernel, by decide +kernel⟩

theorem witness_ResumeReleasesThePause :
    (∀ a : AcqState, (asked 0x22 1 [] (inState a)).ready ⟨0x22, 1, []⟩ []) ∧ (inState .waiting).seq.state ≠ .paused ∧
    { inState .paused with seq.ctx.release := .line }.seq.ctx.release = .line ∧
    (inState .paused).seq.ctx.release = .request :=
  ⟨fun _ => asked_ready _ _ _ rfl rfl, by decide +kernel, rfl, rfl⟩

theorem witness_SampleSettlesAndClaims :
    (asked 0x28 1 [15, 3, 8, 15, 0, 0] .reset).ready ⟨0x28, 1, [15, 3, 8, 15, 0, 0]⟩ [] ∧
    sample? [15, 3, 8, 15, 0, 0] = some ⟨15, .uni10, .eight, 15, 0⟩ ∧ sample? [15, 3, 3, 15, 0, 0] = none ∧
    { State.reset with lp.service := .sampleSettling 1 ⟨15, .uni10, .eight, 15, 0⟩ 0 }.lp.service =
      .sampleSettling 1 ⟨15, .uni10, .eight, 15, 0⟩ 0 :=
  ⟨asked_ready _ _ _ rfl rfl, by decide, by decide, rfl⟩

/-- A SAMPLE at the end of its one conversion. -/
def sampling : State :=
  { State.reset with lp.service := .sampleConverting 1 ⟨4, .bip10, .one, 0, 0⟩ 0x55, cv.claim := some (claimOf .sample) }

theorem witness_SampleCompletesWithItsReply :
    sampling.lp.service = .sampleConverting 1 ⟨4, .bip10, .one, 0, 0⟩ 0x55 ∧ sampling.cv.claim = some (claimOf .sample) ∧
    (claimOf .sample).left = 0 ∧ (claimOf .sample).done + 1 = (claimOf .sample).asked.count ∧
    replied (after .conversionEnd sampling) = some ⟨0xA8, 1, [0x00, 0x28, 0x00, 0x28, 0, 0x55]⟩ := by decide +kernel

theorem witness_ProfileSetActivatesOrStages :
    (∀ (s : State) (n : Byte), s.lp.service = .idle → s.lp.reply = none →
      (asked 0x30 1 (n :: windowed.bytes) s).ready ⟨0x30, 1, n :: windowed.bytes⟩ []) ∧
    windowed.bytes.length = 16 ∧ profile? windowed.bytes = some windowed ∧ (15 : Byte).toNat = (15 : Fin 16).val ∧
    profile? ({ windowed with low := 12001 }).bytes = none :=
  ⟨fun _ _ i e => asked_ready _ _ _ i e, by decide, by decide, by decide, by decide⟩

theorem witness_SubstituteSetWritesTheTable :
    (∀ (s : State) (b n : Byte) (bytes : List Byte), s.lp.service = .idle → s.lp.reply = none →
      (asked 0x32 1 (b :: n :: bytes) s).ready ⟨0x32, 1, b :: n :: bytes⟩ []) ∧
    ([0x34, 0x12] : List Byte).length = 2 * (1 : Byte).toNat ∧ (15 : Byte).toNat + (1 : Byte).toNat ≤ 16 ∧
    ([0x34, 0x12] : List Byte)[2 * (15 - (15 : Byte).toNat)]? = some 0x34 ∧
    ([0x34, 0x12] : List Byte)[2 * (15 - (15 : Byte).toNat) + 1]? = some 0x12 ∧
    16 < (16 : Byte).toNat + (1 : Byte).toNat ∧ 16 < (17 : Byte).toNat ∧
    (List.replicate 34 (0 : Byte)).length = 2 * (17 : Byte).toNat :=
  ⟨fun _ _ _ _ i e => asked_ready _ _ _ i e, by decide, by decide, by decide, by decide, by decide, by decide, by decide⟩

/-- A page with a swap pending, in an active state. -/
def pendingSwap : State :=
  { inState .waiting with
    tm.pages := State.reset.tm.pages.set 2 { Page.erased with stateB := .checked, pending := true } }

theorem witness_Maps :
    (∀ (s : State) (kind : Byte) (body : List Byte), s.lp.service = .idle → s.lp.reply = none →
      (asked kind 1 body s).ready ⟨kind, 1, body⟩ []) ∧
    (pendingSwap.tm.pages.get 2).pending = true ∧ (State.reset.tm.pages.get 2).pending = false ∧
    ([0x34, 0x12] : List Byte).length = 2 * (1 : Byte).toNat ∧ (255 : Byte).toNat + (1 : Byte).toNat ≤ 256 ∧
    256 < (255 : Byte).toNat + (2 : Byte).toNat ∧ 32 < (33 : Byte).toNat ∧
    (State.reset.tm.pages.get 2).state (State.reset.tm.pages.get 2).standby = .empty ∧
    ((loaded .loading).tm.pages.get 2).state ((loaded .loading).tm.pages.get 2).standby ≠ .empty ∧
    ((loaded .loading).tm.pages.get 2).state ((loaded .loading).tm.pages.get 2).standby ≠ .checked ∧
    ((loaded .checked).tm.pages.get 2).state ((loaded .checked).tm.pages.get 2).standby = .checked ∧
    (loaded .checked).seq.state = .stopped :=
  ⟨fun _ _ _ i e => asked_ready _ _ _ i e, by decide +kernel, by decide +kernel, by decide, by decide, by decide, by decide,
    by decide +kernel, by decide +kernel, by decide +kernel, by decide +kernel, rfl⟩

/-- A MAP COMMIT with some entries absorbed. -/
def committing (n : Nat) : State :=
  { loaded .loading with ck.job := some (2, .b), ck.entryCount := n, ck.absorbDue := true, lp.service := .commit 7 0 }

theorem witness_MapCheckAbsorbsAndJudges :
    (committing 255).ck.job = some (2, .b) ∧ (committing 255).ck.entryCount = (255 : Fin 256).val ∧
    (committing 255).ck.absorbDue = true ∧ (committing 256).lp.service = .commit 7 0 ∧
    (committing 256).ck.entryCount = 256 := by decide +kernel

theorem witness_CheckSetStoresTheConfiguration :
    (∀ (s : State) (u : Byte), s.lp.service = .idle → s.lp.reply = none →
      (asked 0x40 1 (u :: CheckConfig.powerOn.bytes) s).ready ⟨0x40, 1, u :: CheckConfig.powerOn.bytes⟩ []) ∧
    CheckConfig.powerOn.bytes.length = 8 ∧ checkConfig? CheckConfig.powerOn.bytes = some .powerOn ∧
    checkConfig? [32, 1, 0, 0, 0x80, 0, 0, 0] = some ⟨32, 0x80000001, .ones, .msbFirst, false⟩ ∧
    checkConfig? [33, 1, 0, 0, 0, 0, 0, 0] = none ∧ checkConfig? [8, 0, 1, 0, 0, 0, 0, 0] = none ∧
    (inState .paused).seq.state ≠ .stopped :=
  ⟨fun _ _ i e => asked_ready _ _ _ i e, by decide, by decide, by decide, by decide, by decide, by decide +kernel⟩

theorem witness_DrainRemovesTheOldestRecords :
    (∀ (s : State) (n : Byte), s.lp.service = .idle → s.lp.reply = none → (asked 0x48 1 [n] s).ready ⟨0x48, 1, [n]⟩ []) ∧
    State.reset.rq.held = none ∧ State.reset.rq.records = [] ∧ 16 < (17 : Byte).toNat ∧
    (oneRecord.take (16 : Byte).toNat).length = 1 :=
  ⟨fun _ _ i e => asked_ready _ _ _ i e, rfl, rfl, by decide, by decide⟩

/-- A record in the held slot. -/
def heldOffer : Offer :=
  { record := { step := 0, source := .digital, value := 0, flags := .clear, raw := none, digital := none, stamp := none },
    stopCause := false }

theorem witness_HeldRecordIsReleased :
    { inState .halted with rq.held := some heldOffer }.rq.held = some heldOffer ∧
    1023 - (1 : Byte).toNat < 1023 ∧ 1023 ≤ 1024 - (1 : Byte).toNat ∧
    State.reset.rq.policy = .halt ∧ State.reset.rq.records.length < 1023 ∧ (0 : BitVec 16).toNat < 16384 := by
  decide +kernel

theorem witness_ReceiverTakesBytes :
    State.reset.lp.inBreak = false ∧ State.reset.lp.badStop = false ∧ State.reset.pins.rstn = true ∧ State.reset.lp.rx = .hunt ∧
    (240 : Byte).toNat ≤ 240 ∧ 240 < (241 : Byte).toNat ∧
    byteSum ([(0 : Byte), 0x02, 0x01] ++ [] ++ [0xFD]) = 0 ∧ byteSum ([(0 : Byte), 0x02, 0x01] ++ [] ++ [0xFE]) ≠ 0 ∧
    (∀ rx : Receiver, { State.reset with lp.rx := rx, lp.gap := some 5000 }.lp.gap.getD 0 ≤ 5000) ∧
    (∀ rx : Receiver, 5000 < { State.reset with lp.rx := rx, lp.gap := some 5001 }.lp.gap.getD 0) ∧
    { State.reset with pins.lrx := false }.pins.lrx = false ∧ State.reset.pins.lrx = true ∧
    { State.reset with lp.badStop := true }.lp.badStop = true ∧
    { State.reset with lp.inBreak := true }.lp.inBreak = true ∧ (List.replicate 4 (Frame.mk 2 1 [])).length = 4 :=
  ⟨rfl, rfl, rfl, rfl, by decide, by decide, by decide, by decide, fun _ => Nat.le_refl 5000,
    fun _ => Nat.le_refl 5001, rfl, rfl, rfl, rfl, by decide⟩

theorem witness_FrameBytesJoinTheBuffer :
    State.reset.lp.inBreak = false ∧ State.reset.lp.badStop = false ∧ State.reset.pins.rstn = true ∧
    State.reset.lp.rx = .hunt ∧ State.reset.lp.gap = none ∧ State.reset.lp.requests.length < 4 ∧
    (Frame.mk 0x38 1 (List.replicate 240 0)).body.length ≤ 240 ∧
    receiveAll (Frame.mk 0x02 1 []).bytes .reset = .next (asked 0x02 1 [] .reset) :=
  ⟨rfl, rfl, rfl, rfl, rfl, by decide, by decide +kernel, rfl⟩

theorem witness_BreakClearsTheLink :
    (broken none).lp.inBreak = false ∧ (broken none).pins.lrx = false ∧ (broken none).lp.speed = .s19200 ∧
    1042 ≤ (broken none).lp.lowFor ∧ (broken (some sending)).lp.reply = some sending ∧ sending.waiting = false ∧
    sending.reply.kind ≠ 0x85 ∧ { State.reset with lp.inBreak := true }.pins.lrx = true := by decide +kernel

theorem witness_TransmitterSendsTheReply :
    (broken (some sending)).lp.reply = some sending ∧ sending.sent + 1 < sending.reply.size ∧ sending.cut = false ∧
    { sending with sent := 8 }.sent + 1 = sending.reply.size ∧ sending.reply.kind ≠ 0x85 ∧
    { sending with cut := true }.cut = true ∧ { sending with waiting := true }.waiting = true ∧
    State.reset.pins.holdn = true ∧ sending.reply.bytes[sending.sent]? = some 0xC3 ∧ (7 + 2) * 1000000 = 9000000 ∧
    State.reset.lp.reply = none := by decide +kernel

theorem witness_SettleExpiryReadsThenClaimsOrOffers :
    settling.seq.state = .running .settling ∧ settling.seq.settle = some 0 ∧
    (settling.ps.slots.get settling.seq.stepIndex).source = .analog ∧
    (settling.ps.slots.get { settling with seq.stepIndex := 1 }.seq.stepIndex).source = .digital := by decide +kernel

theorem witness_StepTimerAndPacerExpiries :
    { inState (.running .spacing) with seq.stepTimer := .running 0 }.seq.stepTimer = .running 0 ∧
    (inState .halted).seq.state ≠ .running .spacing ∧ { inState .waiting with seq.pacer := some 0 }.seq.pacer = some 0 ∧
    (inState .halted).seq.state.inPass = true := by decide +kernel

theorem witness_ConversionEndAddsOrCompletes :
    (claimOf .step).left = 0 ∧ (claimOf .step).done + 1 = (claimOf .step).asked.count ∧
    { claimOf .step with asked := .two }.done + 1 < { claimOf .step with asked := .two }.asked.count := by decide +kernel

theorem witness_LevelMonitorTriggers :
    { inState .armed with tu.monitor := .timing, tu.monitorTimer := some 0 }.tu.monitorTimer = some 0 ∧
    (claimOf .monitor).asked = .one ∧ (claimOf .monitor).done = 0 ∧ (claimOf .monitor).sum = 0 ∧
    TriggerConfig.powerOn.threshold.toNat < (convert (claimOf .monitor).range (claimOf .monitor).input).1 ∧
    ¬ TriggerConfig.powerOn.threshold.toNat < (convert .bip10 0).1 ∧ State.reset.tu.cfg.direction = .above := by
  decide +kernel

theorem witness_TriggerSamplesAreReported :
    (edge .reset).tu.lineWatching = true ∧ (edge .reset).tu.lineDue = true ∧ (edge .reset).tu.cfg.polarity = .rising ∧
    (edge .reset).tu.lineLevel = false ∧ (edge .reset).pins.trig = true ∧
    (watching .matching 0x04 false 0x05).tu.cmpDue = true ∧ (watching .matching 0x04 false 0x05).tu.cfg.mask ≠ 0 ∧
    (edge (inState .halted)).seq.state ≠ .armed ∧
    { edge (inState .paused) with seq.ctx.release := .line }.seq.ctx.release = .line ∧
    { edge (inState .halted) with seq.ctx.stopLine := true }.seq.ctx.stopLine = true := by decide +kernel

theorem witness_StepsAndPassesBegin :
    { Entry.zero with pause := true }.pause = true ∧ Entry.zero.pause = false ∧ State.reset.seq.pauseMark = false := by
  decide

theorem witness_SequencerContinuesAfterAppend :
    { settling with seq.stepIndex := 1 }.seq.stepIndex.val + 1 = settling.ps.length ∧
    ¬ settling.seq.stepIndex.val + 1 = settling.ps.length ∧ settling.rq.held = none ∧
    { settling with seq.ctx.stopLimit := true }.seq.ctx.stopLimit = true ∧ settling.seq.ctx.passLimit = 0 ∧
    { settling with seq.ctx.passLimit := 1, seq.passesStarted := 1 }.seq.passesStarted = 1 ∧
    { settling with seq.stepTimer := .expired }.seq.stepTimer = .expired ∧ EndCause.limit ≠ .reset := by decide +kernel

theorem witness_ConversionCodes :
    (-10000000000000000 : Int) ≤ 2500000000000000 ∧
    ((10240 : Nat) : Int) * 10000000000000000 ≤ (2500000000000000 + 10000000000000000) * 8192 ∧
    (2500000000000000 + 10000000000000000) * 8192 < ((10240 : Nat) + 1 : Int) * 10000000000000000 ∧
    ((16383 : Nat) : Int) * 10000000000000000 ≤ 10000000000000000 * 16383 := by decide

/-- With L and H at one end of the range and Y above 0 the bound of R87 lets the zone return at that end (log 22). -/
theorem test_zone_at_the_ends :
    { windowed with high := 0, low := 0, hysteresis := 5 }.zoneAfter .high 0 = .normal ∧
    { windowed with high := 0, low := 0, hysteresis := 5 }.zoneAfter .high 1 = .high ∧
    { windowed with high := 16383, low := 16383, hysteresis := 5 }.zoneAfter .low 16383 = .normal := by decide

theorem witness_ZoneTable : windowed.valid ∧ (16383 : Nat) ≤ 16383 := by unfold Profile.valid; decide

theorem witness_OverrideFloorAndMap :
    let j : Judgement := { high := true, low := false, ovr := false, din := 0 }
    { Profile.powerOn with slot3 := { enabled := true, source := .high } }.vector j = 8 ∧ Profile.powerOn.vector j = 0 ∧
    (16383 / 64 = 255) ∧ (16319 / 64 = (254 : Fin 256).val) := by decide

theorem witness_ReadersRefuseWhatTheTablesExclude :
    ([2, 0, 0, 1, 0, 0, 0, 0, 0] : List Byte).length = 9 * 1 ∧ entry? [2, 0, 0, 1, 0, 0, 0, 0, 0] = none ∧
    entries? 1 Entry.zero.bytes = some [Entry.zero] ∧ entry? [0, 0, 0, 1, 0, 3, 0x2A, 0, 0] ≠ none := by decide

theorem witness_ResidueBitAndWord : CheckConfig.powerOn.valid ∧ (0xFFFF : BitVec 32).toNat < 2 ^ CheckConfig.powerOn.width := by
  unfold CheckConfig.valid; decide

theorem witness_ReadersInvertLayouts :
    (armed .level).valid ∧ 10 ≤ TriggerConfig.powerOn.monitorInterval.toNat ∧ windowed.valid ∧ CheckConfig.powerOn.valid := by
  unfold ArmFields.valid Profile.valid CheckConfig.valid; decide

/-- A request waiting and a frame under way. -/
def receivingFrame : State :=
  { asked 0x02 1 [] State.reset with lp.rx := .body 3 0x10 1 [5], lp.gap := some 9 }

theorem witness_StepKeepsLinkSafe : LinkSafe receivingFrame := by
  constructor <;> simp [receivingFrame, asked, Receiver.within, State.reset, State.powerOn, LinkPort.powerOn]

/-- A pass whose first step settles, its watchers at work. -/
def inPass : State :=
  { settling with tu.lineWatching := true, tu.cmpWatching := true, seq.stepTimer := .expired }

theorem witness_StepKeepsRunSafe : RunSafe inPass := by
  constructor <;> simp [inPass, settling, programmed, inState, State.reset, State.powerOn, ResultQueue.powerOn,
    Converter.powerOn, TriggerUnit.powerOn, LinkPort.powerOn, AcqState.inPass, Service.sampling, Sequencer.powerOn]

theorem witness_StepKeepsProgramSafe : ProgramSafe inPass := by
  constructor <;> simp [inPass, settling, programmed, inState, AcqState.placed, State.reset, State.powerOn,
    Sequencer.powerOn]

theorem witness_StepKeepsTimersSafe : TimersSafe inPass := by
  constructor <;> simp [inPass, settling, programmed, inState, State.reset, State.powerOn, Sequencer.powerOn,
    RunContext.powerOn]

theorem pendingSwap_page (i : Fin 16) :
    pendingSwap.tm.pages.get i = if i = 2 then { Page.erased with stateB := .checked, pending := true } else Page.erased := by
  revert i; decide +kernel

theorem witness_StepKeepsMapSafe : MapSafe pendingSwap := by
  constructor
  · intro i; rw [pendingSwap_page]; split_ifs <;> exact .inr ⟨rfl, rfl⟩
  · intro i h _ j; rw [pendingSwap_page]; split_ifs <;> cases h <;> exact get_replicate _ _
  · intro i h
    rw [pendingSwap_page] at h ⊢
    split_ifs at h ⊢
    · exact ⟨rfl, by decide +kernel⟩
    · cases h
  · intro i h job; cases job
  · constructor
    · intro h; cases h
    · rintro ⟨_, _, h⟩; cases h
  · decide

theorem witness_StepKeepsSettingsSafe :
    SettingsSafe { State.reset with rq.level := 1024, fm.active := Vector.replicate 16 windowed } := by
  constructor
  · intro i; change ((Vector.replicate 16 windowed).get i).valid; rw [get_replicate]; unfold Profile.valid; decide
  · intro i p h
    change (Vector.replicate 16 (none : Option Profile)).get i = some p at h
    rw [get_replicate] at h
    cases h
  · intro _ i; exact get_replicate _ _
  · decide
  · exact .inl rfl
  · decide
  · decide

theorem witness_StepKeepsResidueSafe : ResidueSafe (committing 255) := by
  have within : (0xFFFF : BitVec 32).toNat < 2 ^ 16 := by decide
  exact ⟨⟨by decide, by decide, by decide, by decide⟩, ⟨by decide, by decide, by decide, by decide⟩, within,
    fun _ => within, fun _ => ⟨7, 0, rfl⟩⟩

/-- The reset state takes a step: the invariants' statements speak of steps there are. -/
theorem witness_StepKeeps : step .reset = .next (tick .reset) := by
  have idleNow : State.reset.due = none := by decide +kernel
  have noCommand : State.reset.pending = [] := rfl
  simp [step, noCommand, idle, idleNow]

end Sys2Proof.Tests
end

section
/-! PROOFS. The place in the program through the shared operations of a run: steps, passes, reports, stops, resets. -/

namespace Sys2Proof.Machine

/-! ## What a report, a stop and a reset leave of the sequencer -/

theorem runStop_state (cause : EndCause) (s : State) : (runStop cause s).seq.state = .stopped := by
  rw [runStop, enterStopped_seq]

theorem resetEffect_state (s : State) : (resetEffect s).seq.state = .stopped := by
  unfold resetEffect
  split_ifs with active
  · simp [resetBlocks, resetStop, enterStopped_seq]
  · simpa [resetBlocks, State.active, AcqState.active] using active

/-- All that a TRIG edge can do: nothing, a start trigger, a pause release, a stop (TABLE 3.2). -/
theorem edgeReport_cases (s : State) :
    edgeReport s = s ∨
    (s.seq.state = .armed ∧ s.seq.ctx.start = .line ∧ edgeReport s = startTrigger s) ∨
    (s.seq.state = .paused ∧ s.seq.ctx.release = .line ∧ edgeReport s = releasePause s) ∨
    (s.seq.state ≠ .stopped ∧ s.seq.state ≠ .armed ∧ s.seq.ctx.stopLine = true ∧ edgeReport s = runStop .line s) := by
  unfold edgeReport
  split <;> rename_i state
  · exact .inl rfl
  all_goals split_ifs <;> simp_all

/-- All that a pattern event can do: nothing, a start trigger, a stop (R54). -/
theorem patternReport_cases (s : State) :
    patternReport s = s ∨
    (s.seq.state = .armed ∧ s.seq.ctx.start = .pattern ∧ patternReport s = startTrigger s) ∨
    (s.seq.state ≠ .stopped ∧ s.seq.state ≠ .armed ∧ s.seq.ctx.stopPattern = true ∧
      patternReport s = runStop .pattern s) := by
  unfold patternReport
  split <;> rename_i state
  · exact .inl rfl
  all_goals split_ifs <;> simp_all

/-- All that STOP can do to a run: nothing, entry to STOPPED from ARMED, a stop (R37). -/
theorem stopRun_cases (s : State) :
    (s.seq.state = .stopped ∧ stopRun s = s) ∨
    (s.seq.state = .armed ∧ stopRun s = enterStopped .request s) ∨
    (s.seq.state ≠ .stopped ∧ s.seq.state ≠ .armed ∧ stopRun s = runStop .request s) := by
  unfold stopRun
  split <;> rename_i state <;> simp [state]

/-! ## A step open, a step done: the place in the program (R10, R29) -/

/-- A step whose record is not yet appended: the index in the program, a record for each step before it. -/
structure StepOpen (s : State) : Prop where
  fits : s.ps.length ≤ 64
  inside : s.seq.stepIndex.val < s.ps.length
  count : s.seq.sampleCount = s.seq.stepIndex.val

/-- A step whose record has just been appended (R29). -/
structure StepDone (s : State) : Prop where
  fits : s.ps.length ≤ 64
  inside : s.seq.stepIndex.val < s.ps.length
  count : s.seq.sampleCount = s.seq.stepIndex.val + 1

theorem ProgramSafe.congr {s t : State} (safe : ProgramSafe s) (ps : t.ps = s.ps) (seq : t.seq = s.seq) :
    ProgramSafe t := by
  obtain ⟨length, armed, place, sampleCount⟩ := safe
  constructor <;> simpa only [ps, seq]

/-- In a pass, outside the spacing, a step is open. -/
theorem ProgramSafe.stepOpen {s : State} (safe : ProgramSafe s) (pass : s.seq.state.inPass = true)
    (notSpacing : s.seq.state ≠ .running .spacing) : StepOpen s := by
  have place := safe.place
  obtain ⟨inside, count⟩ : s.seq.stepIndex.val < s.ps.length ∧ s.seq.sampleCount = s.seq.stepIndex.val := by
    revert place pass notSpacing
    cases s.seq.state with
    | running phase => cases phase <;> simp +contextual [AcqState.placed]
    | paused | halted => intro _ _ place; exact place
    | stopped | armed | waiting => intro pass; cases pass
  exact ⟨safe.length, inside, count⟩

/-- Without a run any program within the store and any count within it will do. -/
theorem programSafe_of_stopped {s : State} (state : s.seq.state = .stopped) (fits : s.ps.length ≤ 64)
    (count : s.seq.sampleCount ≤ 64) : ProgramSafe s :=
  ⟨fits, fun active => absurd state active, by rw [state]; trivial, count⟩

theorem enterStopped_programSafe {s : State} (cause : EndCause) (fits : s.ps.length ≤ 64)
    (count : s.seq.sampleCount ≤ 64) : ProgramSafe (enterStopped cause s) :=
  programSafe_of_stopped (by rw [enterStopped_seq]) (by simpa using fits) (by simpa using count)

theorem runStop_programSafe {s : State} (cause : EndCause) (fits : s.ps.length ≤ 64) (count : s.seq.sampleCount ≤ 64) :
    ProgramSafe (runStop cause s) :=
  programSafe_of_stopped (runStop_state cause s) (by simpa using fits) (by simpa using count)

theorem stepBegin_programSafe {s : State} (step : StepOpen s) : ProgramSafe (stepBegin s) := by
  obtain ⟨fits, inside, count⟩ := step
  refine ⟨by simpa using fits, fun _ => by simp; omega, ?_, by simp; omega⟩
  rw [stepBegin_state]
  split_ifs <;> simp [AcqState.placed, inside, count]

/-- The step after one that is done and not the last: its index is in the program, so it does not wrap. -/
theorem nextStep_programSafe {s : State} (fits : s.ps.length ≤ 64) (more : s.seq.stepIndex.val + 1 < s.ps.length)
    (count : s.seq.sampleCount = s.seq.stepIndex.val + 1) : ProgramSafe (nextStep s) := by
  have index : (s.seq.stepIndex + 1).val = s.seq.stepIndex.val + 1 := Fin.val_add_one_of_lt' (by omega)
  exact stepBegin_programSafe ⟨fits, index ▸ more, count.trans index.symm⟩

theorem passStart_programSafe {s : State} (fits : s.ps.length ≤ 64) (program : 1 ≤ s.ps.length) :
    ProgramSafe (passStart s) :=
  stepBegin_programSafe ⟨fits, program, rfl⟩

theorem startTrigger_programSafe {s : State} (fits : s.ps.length ≤ 64) (program : 1 ≤ s.ps.length) :
    ProgramSafe (startTrigger s) :=
  passStart_programSafe (by simpa using fits) (by simpa using program)

/-- A run goes on by TABLE 2.5 with its program in place (R34). -/
theorem passContinue_programSafe {s : State} (stopCause : Bool) (fits : s.ps.length ≤ 64) (program : 1 ≤ s.ps.length)
    (count : s.seq.sampleCount ≤ 64) : ProgramSafe (passContinue stopCause s) := by
  unfold passContinue
  split_ifs
  · exact enterStopped_programSafe .limit fits count
  · exact enterStopped_programSafe .complete fits count
  · exact passStart_programSafe fits program
  · exact ⟨fits, fun _ => program, trivial, count⟩

theorem passEnd_programSafe {s : State} (stopCause : Bool) (fits : s.ps.length ≤ 64) (program : 1 ≤ s.ps.length)
    (count : s.seq.sampleCount ≤ 64) : ProgramSafe (passEnd stopCause s) :=
  passContinue_programSafe stopCause (by simpa using fits) (by simpa using program) (by simpa using count)

/-- The four ways on from an appended record (R29). -/
theorem afterAppend_programSafe {s : State} (stopCause : Bool) (done : StepDone s) :
    ProgramSafe (afterAppend stopCause s) := by
  obtain ⟨fits, inside, count⟩ := done
  have within : s.seq.sampleCount ≤ 64 := by omega
  unfold afterAppend
  split_ifs with limited last expired
  · exact runStop_programSafe .limit fits within
  · exact passEnd_programSafe stopCause fits (by omega) within
  all_goals
    have more : s.seq.stepIndex.val + 1 < s.ps.length := by
      have notLast : s.seq.stepIndex.val + 1 ≠ s.ps.length := by simpa [State.lastStep] using last
      omega
  · exact nextStep_programSafe fits more count
  · exact ⟨fits, fun _ => Nat.one_le_of_lt inside, ⟨more, count⟩, within⟩

theorem appendSample_stepDone {s : State} (r : SampleRecord) (step : StepOpen s) : StepDone (appendSample r s) :=
  ⟨by simpa using step.fits, by simpa using step.inside, by simp [appendSample_sampleCount, step.count]⟩

/-- An offered record is held, the step staying open, or appended (R28, R31). -/
theorem offerSample_programSafe {s : State} (o : Offer) (step : StepOpen s) : ProgramSafe (offerSample o s) := by
  unfold offerSample
  split_ifs
  · obtain ⟨fits, inside, count⟩ := step
    exact ⟨fits, fun _ => Nat.one_le_of_lt inside, ⟨inside, count⟩, by simp; omega⟩
  · exact afterAppend_programSafe o.stopCause (appendSample_stepDone o.record step)

/-! ## Operations of a run keep the place -/

/-- What a command needs to keep the place: the place, a held record only in HALTED, a step's claim only in its
conversions (R72, R143). -/
structure RunPlaced (s : State) : Prop where
  program : ProgramSafe s
  held : s.rq.held.isSome = true → s.seq.state = .halted
  stepClaim : ∀ c, s.cv.claim = some c → c.claimant = .step → s.seq.state = .running .converting

theorem runPlaced_of_safe {s : State} (run : RunSafe s) (program : ProgramSafe s) : RunPlaced s :=
  ⟨program, run.held.mp, fun c claim step => run.stepClaim.mp ⟨c, claim, step⟩⟩

theorem RunPlaced.congr {s t : State} (placed : RunPlaced s) (ps : t.ps = s.ps) (seq : t.seq = s.seq)
    (held : t.rq.held = s.rq.held) (cv : t.cv = s.cv) : RunPlaced t := by
  refine ⟨placed.program.congr ps seq, ?_, ?_⟩
  · rw [held, seq]; exact placed.held
  · rw [cv, seq]; exact placed.stepClaim

/-- A held record is of a step still open; without one nothing is released (R144). -/
theorem releaseHeld_programSafe {s : State} (safe : ProgramSafe s)
    (halted : s.rq.held.isSome = true → s.seq.state = .halted) : ProgramSafe (releaseHeld s) := by
  unfold releaseHeld
  split
  · rename_i o held
    split_ifs
    · have state : s.seq.state = .halted := halted (by simp [held])
      obtain ⟨fits, inside, count⟩ := safe.stepOpen (by simp [state, AcqState.inPass]) (by simp [state])
      exact afterAppend_programSafe o.stopCause (appendSample_stepDone o.record ⟨fits, inside, count⟩)
    · exact safe
  · exact safe

theorem releasePause_programSafe {s : State} (safe : ProgramSafe s) (paused : s.seq.state = .paused) :
    ProgramSafe (releasePause s) := by
  obtain ⟨fits, inside, count⟩ := safe.stepOpen (by simp [paused, AcqState.inPass]) (by simp [paused])
  exact stepBegin_programSafe ⟨fits, inside, count⟩

theorem edgeReport_programSafe {s : State} (safe : ProgramSafe s) : ProgramSafe (edgeReport s) := by
  obtain same | ⟨armed, -, starts⟩ | ⟨paused, -, releases⟩ | ⟨-, -, -, stops⟩ := edgeReport_cases s
  · rw [same]; exact safe
  · rw [starts]; exact startTrigger_programSafe safe.length (safe.armed (by simp [armed]))
  · rw [releases]; exact releasePause_programSafe safe paused
  · rw [stops]; exact runStop_programSafe .line safe.length safe.sampleCount

theorem patternReport_programSafe {s : State} (safe : ProgramSafe s) : ProgramSafe (patternReport s) := by
  obtain same | ⟨armed, -, starts⟩ | ⟨-, -, -, stops⟩ := patternReport_cases s
  · rw [same]; exact safe
  · rw [starts]; exact startTrigger_programSafe safe.length (safe.armed (by simp [armed]))
  · rw [stops]; exact runStop_programSafe .pattern safe.length safe.sampleCount

theorem stopRun_programSafe {s : State} (safe : ProgramSafe s) : ProgramSafe (stopRun s) := by
  obtain ⟨-, same⟩ | ⟨-, ends⟩ | ⟨-, -, stops⟩ := stopRun_cases s
  · rw [same]; exact safe
  · rw [ends]; exact enterStopped_programSafe .request safe.length safe.sampleCount
  · rw [stops]; exact runStop_programSafe .request safe.length safe.sampleCount

theorem resetEffect_programSafe {s : State} (safe : ProgramSafe s) : ProgramSafe (resetEffect s) := by
  refine programSafe_of_stopped (resetEffect_state s) ?_ ?_
  · have fits := safe.length
    unfold resetEffect
    split_ifs <;> simpa [resetBlocks, resetStop] using fits
  · exact Nat.zero_le _

theorem powerOnReset_programSafe (s : State) : ProgramSafe (powerOnReset s) :=
  programSafe_of_stopped rfl (Nat.zero_le _) (Nat.zero_le _)

end Sys2Proof.Machine
end

section
/-! PROOFS. The place in the program through the owners of requests and through the events. -/

namespace Sys2Proof.Machine

/-! ## The requests that leave the program and the sequencer alone -/

/-- What an owner of a request does leaves the program and the sequencer as they are. -/
def KeepsPlace (owner : State → State) : Prop := ∀ s, (owner s).ps = s.ps ∧ (owner s).seq = s.seq

theorem attentionSetRequest_keepsPlace (tag : Byte) (body : List Byte) :
    KeepsPlace (attentionSetRequest tag body) := by
  intro s; unfold attentionSetRequest; repeat' split
  all_goals simp

theorem programReadRequest_keepsPlace (tag : Byte) (body : List Byte) : KeepsPlace (programReadRequest tag body) := by
  intro s; unfold programReadRequest; repeat' split
  all_goals simp

theorem triggerSetRequest_keepsPlace (tag : Byte) (body : List Byte) : KeepsPlace (triggerSetRequest tag body) := by
  intro s; unfold triggerSetRequest; repeat' split
  all_goals simp

theorem outputSetRequest_keepsPlace (tag : Byte) (body : List Byte) : KeepsPlace (outputSetRequest tag body) := by
  intro s; unfold outputSetRequest outputSetAck; repeat' split
  all_goals simp

theorem sampleRequest_keepsPlace (tag : Byte) (body : List Byte) : KeepsPlace (sampleRequest tag body) := by
  intro s; unfold sampleRequest; repeat' split
  all_goals simp

theorem profileSetRequest_keepsPlace (tag : Byte) (body : List Byte) : KeepsPlace (profileSetRequest tag body) := by
  intro s; unfold profileSetRequest setProfile; repeat' split
  all_goals simp

theorem profileReadRequest_keepsPlace (tag : Byte) (body : List Byte) : KeepsPlace (profileReadRequest tag body) := by
  intro s; unfold profileReadRequest; repeat' split
  all_goals simp

theorem substituteSetRequest_keepsPlace (tag : Byte) (body : List Byte) :
    KeepsPlace (substituteSetRequest tag body) := by
  intro s; unfold substituteSetRequest; repeat' split
  all_goals simp

theorem mapLoadRequest_keepsPlace (tag : Byte) (body : List Byte) : KeepsPlace (mapLoadRequest tag body) := by
  intro s; unfold mapLoadRequest putPage; repeat' split
  all_goals simp

theorem mapCommitRequest_keepsPlace (tag : Byte) (body : List Byte) : KeepsPlace (mapCommitRequest tag body) := by
  intro s; unfold mapCommitRequest beginCheck; repeat' split
  all_goals simp

theorem mapSwapRequest_keepsPlace (tag : Byte) (body : List Byte) : KeepsPlace (mapSwapRequest tag body) := by
  intro s; unfold mapSwapRequest putPage; dsimp only; repeat' split
  all_goals simp

theorem mapReadRequest_keepsPlace (tag : Byte) (body : List Byte) : KeepsPlace (mapReadRequest tag body) := by
  intro s; unfold mapReadRequest; repeat' split
  all_goals simp

theorem checkSetRequest_keepsPlace (tag : Byte) (body : List Byte) : KeepsPlace (checkSetRequest tag body) := by
  intro s; unfold checkSetRequest setCheck; repeat' split
  all_goals simp

/-- A reply formed from the state alone changes nothing else. -/
theorem ack_keepsPlace (kind tag : Byte) (body : State → List Byte) : KeepsPlace fun s => ack kind tag (body s) s := by
  intro s; simp

theorem KeepsPlace.programSafe {owner : State → State} (keeps : KeepsPlace owner) {s : State} (safe : ProgramSafe s) :
    ProgramSafe (owner s) :=
  safe.congr (keeps s).1 (keeps s).2

/-! ## The requests that act on the program or on the run -/

theorem putReply_programSafe {s : State} (r : Frame) (safe : ProgramSafe s) : ProgramSafe (putReply r s) :=
  safe.congr (by simp) (by simp)

theorem ack_programSafe {s : State} (kind tag : Byte) (body : List Byte) (safe : ProgramSafe s) :
    ProgramSafe (ack kind tag body s) :=
  putReply_programSafe _ safe

theorem refuse_programSafe {s : State} (kind tag : Byte) (reason : Reason) (safe : ProgramSafe s) :
    ProgramSafe (refuse kind tag reason s) :=
  putReply_programSafe _ safe

theorem stopped_of_inactive {s : State} (inactive : ¬ s.active = true) : s.seq.state = .stopped := by
  simpa [State.active, AcqState.active] using inactive

theorem programLoadRequest_programSafe {s : State} (tag : Byte) (body : List Byte) (safe : ProgramSafe s) :
    ProgramSafe (programLoadRequest tag body s) := by
  unfold programLoadRequest
  split
  · rename_i start count bytes
    split_ifs with active badCount gap range
    iterate 4 exact refuse_programSafe _ _ _ safe
    split
    · exact refuse_programSafe _ _ _ safe
    · rename_i entries read
      have size : entries.length = count.toNat := entries?_length read
      have room : start.toNat + count.toNat ≤ 64 := Nat.not_lt.mp range
      have fits := safe.length
      refine ack_programSafe _ _ _ (programSafe_of_stopped (stopped_of_inactive active) ?_ safe.sampleCount)
      simp only [loadProgram]
      omega
  · exact refuse_programSafe _ _ _ safe

theorem programTrimRequest_programSafe {s : State} (tag : Byte) (body : List Byte) (safe : ProgramSafe s) :
    ProgramSafe (programTrimRequest tag body s) := by
  unfold programTrimRequest
  split
  · split_ifs with active range
    iterate 2 exact refuse_programSafe _ _ _ safe
    exact ack_programSafe _ _ _ (programSafe_of_stopped (stopped_of_inactive active)
      ((Nat.not_lt.mp range).trans safe.length) safe.sampleCount)
  · exact refuse_programSafe _ _ _ safe

theorem armRun_programSafe {s : State} (f : ArmFields) (fits : s.ps.length ≤ 64) (program : 1 ≤ s.ps.length) :
    ProgramSafe (armRun f s) := by
  unfold armRun
  dsimp only
  cases f.ctx.start with
  | now => exact startTrigger_programSafe fits program
  | level => exact ⟨fits, fun _ => program, trivial, Nat.zero_le _⟩
  | line => exact ⟨fits, fun _ => program, trivial, Nat.zero_le _⟩
  | pattern => exact ⟨fits, fun _ => program, trivial, Nat.zero_le _⟩

theorem armRequest_programSafe {s : State} (tag : Byte) (body : List Byte) (safe : ProgramSafe s) :
    ProgramSafe (armRequest tag body s) := by
  unfold armRequest
  split_ifs with active empty
  iterate 2 exact refuse_programSafe _ _ _ safe
  split
  · exact refuse_programSafe _ _ _ safe
  · exact ack_programSafe _ _ _ (armRun_programSafe _ safe.length (Nat.one_le_iff_ne_zero.mpr empty))

theorem stopRequest_programSafe {s : State} (tag : Byte) (safe : ProgramSafe s) : ProgramSafe (stopRequest tag s) :=
  ack_programSafe _ _ _ (stopRun_programSafe safe)

theorem resumeRequest_programSafe {s : State} (tag : Byte) (safe : ProgramSafe s) :
    ProgramSafe (resumeRequest tag s) := by
  unfold resumeRequest
  split_ifs with paused byLine
  iterate 2 exact refuse_programSafe _ _ _ safe
  exact ack_programSafe _ _ _ (releasePause_programSafe safe (not_not.mp paused))

theorem drainRequest_programSafe {s : State} (tag : Byte) (body : List Byte) (placed : RunPlaced s) :
    ProgramSafe (drainRequest tag body s) := by
  unfold drainRequest
  split
  · rename_i n
    split_ifs
    · exact refuse_programSafe _ _ _ placed.program
    · have safe : ProgramSafe (removeRecords n.toNat s) := placed.program.congr rfl rfl
      exact ack_programSafe _ _ _ (releaseHeld_programSafe safe placed.held)
  · exact refuse_programSafe _ _ _ placed.program

theorem eraseProgramAction_programSafe {s : State} (stopped : s.seq.state = .stopped) (safe : ProgramSafe s) :
    ProgramSafe (eraseProgramAction s) :=
  programSafe_of_stopped stopped (Nat.zero_le _) safe.sampleCount

/-- With nothing held EMPTY_QUEUE acts on the queue alone (R153). -/
theorem emptyQueueAction_none {s : State} (nothing : s.rq.held = none) :
    emptyQueueAction s = { s with rq.records := [], rq.lossMark := false } := by
  simp [emptyQueueAction, releaseHeld, nothing]

theorem emptyQueueAction_programSafe {s : State} (placed : RunPlaced s) : ProgramSafe (emptyQueueAction s) :=
  releaseHeld_programSafe (placed.program.congr rfl rfl) placed.held

/-- An action of CLEAR, taken where its bit is set. -/
def actIf (named : Bool) (action : State → State) (s : State) : State := if named then action s else s

theorem actIf_programSafe {named : Bool} {action : State → State} {s : State} (safe : ProgramSafe s)
    (acts : named = true → ProgramSafe (action s)) : ProgramSafe (actIf named action s) := by
  cases named
  · exact safe
  · exact acts rfl

/-- The actions of an accepted CLEAR, in order (R173). -/
def clearActions (actions : Byte) (s : State) : State :=
  actIf (actions.getLsbD 3) restOutputsAction <| actIf (actions.getLsbD 2) eraseMapsAction <|
    actIf (actions.getLsbD 1) eraseProgramAction <| actIf (actions.getLsbD 0) emptyQueueAction s

/-- All that a CLEAR can do: a REFUSE, or the flags cleared and the actions taken, an erasing one in STOPPED alone. -/
theorem clearOwner_cases (tag : Byte) (mask : BitVec 16) (actions : Byte) (s : State) :
    clearOwner tag mask actions s = refuse kindClear tag .badField s ∨
    clearOwner tag mask actions s = refuse kindClear tag .busy s ∨
    ((actions.getLsbD 1 = true ∨ actions.getLsbD 2 = true ∨ actions.getLsbD 3 = true → s.seq.state = .stopped) ∧
      let cleared := clearActions actions (clearFlags (mask.setWidth 14) s)
      clearOwner tag mask actions s = ack kindClear tag cleared.flagBytes cleared) := by
  by_cases bad : 16384 ≤ mask.toNat ∨ 16 ≤ actions.toNat
  · exact .inl (if_pos bad)
  by_cases busy : (s.active && (actions.getLsbD 1 || actions.getLsbD 2 || actions.getLsbD 3)) = true
  · exact .inr (.inl ((if_neg bad).trans (if_pos busy)))
  refine .inr (.inr ⟨fun erases => stopped_of_inactive fun active => busy ?_, (if_neg bad).trans (if_neg busy)⟩)
  simpa [active, or_assoc] using erases

/-- CLEAR erases the program in STOPPED alone, where EMPTY_QUEUE has no record to release (R173, R143). -/
theorem clearActions_programSafe {s : State} {actions : Byte} (placed : RunPlaced s)
    (idle : actions.getLsbD 1 = true → s.seq.state = .stopped) : ProgramSafe (clearActions actions s) := by
  have emptied : ProgramSafe (actIf (actions.getLsbD 0) emptyQueueAction s) :=
    actIf_programSafe placed.program fun _ => emptyQueueAction_programSafe placed
  have stopped (erases : actions.getLsbD 1 = true) :
      (actIf (actions.getLsbD 0) emptyQueueAction s).seq.state = .stopped := by
    have nothing : s.rq.held = none := by
      by_contra held
      have halted := placed.held (Option.isSome_iff_ne_none.mpr held)
      rw [idle erases] at halted
      cases halted
    unfold actIf
    split_ifs
    · rw [emptyQueueAction_none nothing]; exact idle erases
    · exact idle erases
  have erased := actIf_programSafe emptied fun erases => eraseProgramAction_programSafe (stopped erases) emptied
  have mapsErased := actIf_programSafe (named := actions.getLsbD 2) erased fun _ =>
    erased.congr (t := eraseMapsAction _) (by simp) (by simp)
  exact actIf_programSafe mapsErased fun _ => mapsErased.congr (by simp) (by simp)

theorem clearOwner_programSafe {s : State} (tag : Byte) (mask : BitVec 16) (actions : Byte) (placed : RunPlaced s) :
    ProgramSafe (clearOwner tag mask actions s) := by
  obtain bad | busy | ⟨idle, cleared⟩ := clearOwner_cases tag mask actions s
  · rw [bad]; exact refuse_programSafe _ _ _ placed.program
  · rw [busy]; exact refuse_programSafe _ _ _ placed.program
  · have flagged : RunPlaced (clearFlags (mask.setWidth 14) s) :=
      placed.congr (by simp) (by simp) (by simp) (by simp)
    rw [cleared]
    exact ack_programSafe _ _ _ (clearActions_programSafe flagged fun erases => by simpa using idle (.inl erases))

theorem clearRequest_programSafe {s : State} (tag : Byte) (body : List Byte) (placed : RunPlaced s) :
    ProgramSafe (clearRequest tag body s) := by
  unfold clearRequest
  split
  · exact clearOwner_programSafe _ _ _ placed
  · exact refuse_programSafe _ _ _ placed.program

/-- A request command keeps the place where its owner does. -/
theorem serve_programSafe {kind tag : Byte} {body : List Byte} {lengthOk : Bool} {owner : State → State} {s : State}
    (placed : RunPlaced s) (owned : ∀ t, RunPlaced t → ProgramSafe (owner t)) :
    ProgramSafe (serve kind tag body lengthOk owner s) := by
  have arrived : RunPlaced (joinBuffer ⟨kind, tag, body⟩ (judgeGap s)) :=
    placed.congr (by simp) (by simp) (by simp) (by simp)
  obtain same | ⟨-, joined⟩ | ⟨t, rest, origin, -, served⟩ := serve_cases kind tag body lengthOk owner s
  · rw [same]; exact placed.program
  · rw [joined]; exact arrived.program
  · have here : RunPlaced t := by
      obtain rfl | ⟨-, rfl⟩ := origin
      · exact placed
      · exact arrived
    have taken : RunPlaced (takeRequest t) := here.congr (by simp) (by simp) (by simp) (by simp)
    rw [served, beginService]
    split_ifs
    · exact owned _ taken
    · exact refuse_programSafe _ _ _ taken.program

/-! ## The events of the line -/

theorem endReply_programSafe {s : State} (r : Transmission) (safe : ProgramSafe s) : ProgramSafe (endReply r s) := by
  have emptied : ProgramSafe { s with lp.reply := none } := safe.congr rfl rfl
  unfold endReply
  dsimp only
  split_ifs
  · exact resetEffect_programSafe emptied
  · exact emptied

theorem cutReply_programSafe {s : State} (r : Transmission) (safe : ProgramSafe s) : ProgramSafe (cutReply r s) :=
  (endReply_programSafe r safe).congr (by simp [cutReply]) (by simp [cutReply])

theorem breakReply_programSafe {s : State} (safe : ProgramSafe s) : ProgramSafe (breakReply s) := by
  unfold breakReply
  split
  · exact safe.congr (by simp) (by simp)
  · split_ifs
    · exact cutReply_programSafe _ safe
    · exact safe.congr rfl rfl

/-! ## The events of a run -/

theorem expireSettle_programSafe {s : State} (safe : ProgramSafe s) (settling : s.seq.state = .running .settling) :
    ProgramSafe (expireSettle s) := by
  have step := safe.stepOpen (by simp [settling, AcqState.inPass]) (by simp [settling])
  obtain ⟨fits, inside, count⟩ := step
  unfold expireSettle
  dsimp only
  cases s.entry.source with
  | analog => exact ⟨fits, fun _ => Nat.one_le_of_lt inside, ⟨inside, count⟩, safe.sampleCount⟩
  | digital => exact offerSample_programSafe _ ⟨fits, inside, count⟩

theorem expireStepTimer_programSafe {s : State} (safe : ProgramSafe s) : ProgramSafe (expireStepTimer s) := by
  unfold expireStepTimer
  split_ifs with spacing
  · obtain ⟨more, count⟩ : s.seq.stepIndex.val + 1 < s.ps.length ∧ s.seq.sampleCount = s.seq.stepIndex.val + 1 := by
      simpa [spacing, AcqState.placed] using safe.place
    exact nextStep_programSafe safe.length more count
  · exact ⟨safe.length, safe.armed, safe.place, safe.sampleCount⟩

theorem missTick_programSafe {s : State} (safe : ProgramSafe s) : ProgramSafe (missTick s) :=
  ⟨safe.length, safe.armed, safe.place, safe.sampleCount⟩

theorem expirePacer_programSafe {s : State} (safe : ProgramSafe s) : ProgramSafe (expirePacer s) := by
  have next : ProgramSafe { s with seq.pacer := some s.seq.ctx.passInterval.toNat } :=
    ⟨safe.length, safe.armed, safe.place, safe.sampleCount⟩
  unfold expirePacer
  dsimp only
  split
  · rename_i waiting
    exact passStart_programSafe next.length (next.armed (by simp [waiting]))
  iterate 3 exact missTick_programSafe next
  iterate 2 exact next

theorem sampleLine_programSafe {s : State} (safe : ProgramSafe s) : ProgramSafe (sampleLine s) := by
  have kept : ProgramSafe (keepLineSample s) := safe.congr (by simp) (by simp)
  unfold sampleLine
  split_ifs
  · exact edgeReport_programSafe kept
  · exact kept

theorem reportPattern_programSafe {s : State} (safe : ProgramSafe s) :
    ProgramSafe (patternReport (raise .pattern (keepPatternSample s))) :=
  patternReport_programSafe (safe.congr (by simp) (by simp))

theorem samplePattern_programSafe {s : State} (safe : ProgramSafe s) : ProgramSafe (samplePattern s) := by
  unfold samplePattern
  split_ifs
  · exact reportPattern_programSafe safe
  · exact safe.congr (by simp) (by simp)

/-! ## The events of the Converter and of a map check -/

theorem updateZone_place (raw : Nat) (s : State) :
    (updateZone raw s).ps = s.ps ∧ (updateZone raw s).seq = s.seq := by
  unfold updateZone
  dsimp only
  split_ifs <;> simp

theorem completeStep_programSafe {s : State} (raw : Nat) (ovr : Bool) (step : StepOpen s) :
    ProgramSafe (completeStep raw ovr s) := by
  obtain ⟨fits, inside, count⟩ := step
  obtain ⟨ps, seq⟩ := updateZone_place raw s
  exact offerSample_programSafe _ ⟨by rwa [ps], by rwa [ps, seq], by rwa [seq]⟩

theorem completeMonitor_programSafe {s : State} (raw : Nat) (safe : ProgramSafe s) :
    ProgramSafe (completeMonitor raw s) := by
  unfold completeMonitor
  dsimp only
  split_ifs with untrue first armed
  · exact safe.congr rfl rfl
  · exact safe.congr rfl rfl
  · exact startTrigger_programSafe safe.length (safe.armed (by simp [armed]))
  · exact safe.congr rfl rfl

theorem completeSample_programSafe {s : State} (raw : Nat) (ovr : Bool) (safe : ProgramSafe s) :
    ProgramSafe (completeSample raw ovr s) := by
  unfold completeSample
  split
  · exact safe.congr (by simp) (by simp)
  · exact safe

/-- The end of a conversion: only a step's claim moves the place, and a step's claim is in its conversion (R72). -/
theorem endConversion_programSafe {s : State} {c : Claim} (placed : RunPlaced s) (claim : s.cv.claim = some c) :
    ProgramSafe (endConversion c s) := by
  have idle : ProgramSafe { s with cv.claim := none } := placed.program.congr rfl rfl
  unfold endConversion
  split_ifs
  · exact placed.program.congr rfl rfl
  · unfold completeClaim
    dsimp only
    cases claimant : c.afterConversion.claimant with
    | step =>
      have converting := placed.stepClaim c claim claimant
      exact completeStep_programSafe _ _
        (idle.stepOpen (by simp [converting, AcqState.inPass]) (by simp [converting]))
    | monitor => exact completeMonitor_programSafe _ idle
    | sample => exact completeSample_programSafe _ _ idle

theorem completeCheck_programSafe {s : State} (i : Fin 16) (h : Half) (tag : Byte) (expected : BitVec 32)
    (safe : ProgramSafe s) : ProgramSafe (completeCheck i h tag expected s) :=
  safe.congr (by simp [completeCheck, putPage]) (by simp [completeCheck, putPage])

end Sys2Proof.Machine
end

section
/-! PROOFS. Every command and every step keeps the place in the program (O58). -/

namespace Sys2Proof.Machine

/-! ## Every command and every step keeps the place -/

/-- The command answers a next state with the program and the place in it. -/
def AnswersPlaced (c : Instr) (s : State) : Prop := ∃ t, exec c s = .next t ∧ ProgramSafe t

theorem AnswersPlaced.of_serve {c : Instr} {s : State} {kind tag : Byte} {body : List Byte} {lengthOk : Bool}
    {owner : State → State} (placed : RunPlaced s) (meaning : exec c s = .next (serve kind tag body lengthOk owner s))
    (owned : ∀ t, RunPlaced t → ProgramSafe (owner t)) : AnswersPlaced c s :=
  ⟨_, meaning, serve_programSafe placed owned⟩

theorem AnswersPlaced.of_keeps {c : Instr} {s : State} {kind tag : Byte} {body : List Byte} {lengthOk : Bool}
    {owner : State → State} (placed : RunPlaced s) (meaning : exec c s = .next (serve kind tag body lengthOk owner s))
    (keeps : KeepsPlace owner) : AnswersPlaced c s :=
  .of_serve placed meaning fun _ there => keeps.programSafe there.program

/-- An event that acts where it is due and else changes nothing (log 1). -/
theorem AnswersPlaced.of_due {c : Instr} {s t : State} {due : Prop} {_ : Decidable due} (safe : ProgramSafe s)
    (meaning : exec c s = .next (if due then t else s)) (acts : due → ProgramSafe t) : AnswersPlaced c s := by
  refine ⟨_, meaning, ?_⟩
  split_ifs with h
  · exact acts h
  · exact safe

theorem unknownKind_answersPlaced {s : State} (placed : RunPlaced s) (kind tag : Byte) (body : List Byte) :
    AnswersPlaced (.unknownKind kind tag body) s := by
  refine ⟨_, rfl, ?_⟩
  split_ifs
  · exact placed.program
  · exact serve_programSafe placed fun _ there => refuse_programSafe _ _ _ there.program

theorem frameComplete_answersPlaced {s : State} (safe : ProgramSafe s) (chk : Byte) :
    AnswersPlaced (.frameComplete chk) s := by
  refine ⟨_, rfl, ?_⟩
  split
  · exact safe.congr (by simp) (by simp)
  · exact safe

theorem framingError_answersPlaced {s : State} (safe : ProgramSafe s) : AnswersPlaced .framingError s := by
  refine ⟨_, rfl, ?_⟩
  split_ifs
  · exact safe.congr (by simp) (by simp)
  · exact safe.congr rfl rfl
  · exact safe

theorem replyByteSent_answersPlaced {s : State} (safe : ProgramSafe s) : AnswersPlaced .replyByteSent s := by
  refine ⟨_, rfl, ?_⟩
  split
  · split_ifs
    · exact cutReply_programSafe _ safe
    iterate 2 exact safe.congr rfl rfl
    exact safe
  · exact safe

theorem replySent_answersPlaced {s : State} (safe : ProgramSafe s) : AnswersPlaced .replySent s := by
  refine ⟨_, rfl, ?_⟩
  split
  · split_ifs
    · exact cutReply_programSafe _ safe
    · exact endReply_programSafe _ safe
    · exact safe
  · exact safe

theorem holdnRelease_answersPlaced {s : State} (safe : ProgramSafe s) : AnswersPlaced .holdnRelease s := by
  refine ⟨_, rfl, ?_⟩
  split
  · split_ifs
    · exact safe.congr rfl rfl
    · exact safe
  · exact safe

theorem settleExpiry_answersPlaced {s : State} (safe : ProgramSafe s) : AnswersPlaced .settleExpiry s := by
  refine .of_due safe rfl fun due => expireSettle_programSafe safe ?_
  simp only [State.settleDue, Bool.and_eq_true, decide_eq_true_eq] at due
  exact due.1

theorem conversionEnd_answersPlaced {s : State} (placed : RunPlaced s) : AnswersPlaced .conversionEnd s := by
  refine ⟨_, rfl, ?_⟩
  split
  · rename_i c claim
    split_ifs
    · exact endConversion_programSafe placed claim
    · exact placed.program
  · exact placed.program

theorem sampleSettleExpiry_answersPlaced {s : State} (safe : ProgramSafe s) : AnswersPlaced .sampleSettleExpiry s := by
  refine ⟨_, rfl, ?_⟩
  split
  · exact safe.congr rfl rfl
  · exact safe

theorem unitBAbsorb_answersPlaced {s : State} (safe : ProgramSafe s) : AnswersPlaced .unitBAbsorb s := by
  refine ⟨_, rfl, ?_⟩
  split
  · split_ifs
    · exact safe.congr rfl rfl
    · exact safe
  · exact safe

theorem mapCommitCompletion_answersPlaced {s : State} (safe : ProgramSafe s) :
    AnswersPlaced .mapCommitCompletion s := by
  refine ⟨_, rfl, ?_⟩
  split
  · split_ifs
    · exact completeCheck_programSafe _ _ _ _ safe
    · exact safe
  · exact safe

/-- Every command keeps the place in the program: the requests by their owners, the events by what they do where due. -/
theorem exec_answersPlaced {s : State} (placed : RunPlaced s) (c : Instr) : AnswersPlaced c s := by
  have safe := placed.program
  cases c with
  | identify tag body => exact .of_keeps placed rfl (ack_keepsPlace _ _ fun _ => _)
  | status tag body => exact .of_keeps placed rfl (ack_keepsPlace _ _ statusBody)
  | clear tag body => exact .of_serve placed rfl fun _ => clearRequest_programSafe tag body
  | emptyQueue tag mask => exact .of_serve placed rfl fun _ => clearOwner_programSafe tag mask _
  | eraseProgram tag mask => exact .of_serve placed rfl fun _ => clearOwner_programSafe tag mask _
  | eraseMaps tag mask => exact .of_serve placed rfl fun _ => clearOwner_programSafe tag mask _
  | restOutputs tag mask => exact .of_serve placed rfl fun _ => clearOwner_programSafe tag mask _
  | attentionSet tag body => exact .of_keeps placed rfl (attentionSetRequest_keepsPlace tag body)
  | reset tag body => exact .of_keeps placed rfl (ack_keepsPlace _ _ fun _ => _)
  | programLoad tag body =>
    exact .of_serve placed rfl fun _ there => programLoadRequest_programSafe tag body there.program
  | programTrim tag body =>
    exact .of_serve placed rfl fun _ there => programTrimRequest_programSafe tag body there.program
  | programRead tag body => exact .of_keeps placed rfl (programReadRequest_keepsPlace tag body)
  | triggerSet tag body => exact .of_keeps placed rfl (triggerSetRequest_keepsPlace tag body)
  | outputSet tag body => exact .of_keeps placed rfl (outputSetRequest_keepsPlace tag body)
  | arm tag body => exact .of_serve placed rfl fun _ there => armRequest_programSafe tag body there.program
  | stop tag body => exact .of_serve placed rfl fun _ there => stopRequest_programSafe tag there.program
  | resume tag body => exact .of_serve placed rfl fun _ there => resumeRequest_programSafe tag there.program
  | sample tag body => exact .of_keeps placed rfl (sampleRequest_keepsPlace tag body)
  | profileSet tag body => exact .of_keeps placed rfl (profileSetRequest_keepsPlace tag body)
  | profileRead tag body => exact .of_keeps placed rfl (profileReadRequest_keepsPlace tag body)
  | substituteSet tag body => exact .of_keeps placed rfl (substituteSetRequest_keepsPlace tag body)
  | mapLoad tag body => exact .of_keeps placed rfl (mapLoadRequest_keepsPlace tag body)
  | mapCommit tag body => exact .of_keeps placed rfl (mapCommitRequest_keepsPlace tag body)
  | mapSwap tag body => exact .of_keeps placed rfl (mapSwapRequest_keepsPlace tag body)
  | mapRead tag body => exact .of_keeps placed rfl (mapReadRequest_keepsPlace tag body)
  | checkSet tag body => exact .of_keeps placed rfl (checkSetRequest_keepsPlace tag body)
  | drain tag body => exact .of_serve placed rfl fun _ => drainRequest_programSafe tag body
  | unknownKind kind tag body => exact unknownKind_answersPlaced placed kind tag body
  | frameComplete chk => exact frameComplete_answersPlaced safe chk
  | lenError len => exact .of_due safe rfl fun _ => safe.congr (by simp) (by simp)
  | gapTimeout => exact ⟨_, rfl, safe.congr (by simp) (by simp)⟩
  | framingError => exact framingError_answersPlaced safe
  | linkBreak => exact .of_due safe rfl fun _ => breakReply_programSafe (safe.congr rfl rfl)
  | breakEnd => exact .of_due safe rfl fun _ => safe.congr rfl rfl
  | replySent => exact replySent_answersPlaced safe
  | holdnRelease => exact holdnRelease_answersPlaced safe
  | powerOnReset => exact ⟨_, rfl, powerOnReset_programSafe s⟩
  | settleExpiry => exact settleExpiry_answersPlaced safe
  | stepTimerExpiry => exact .of_due safe rfl fun _ => expireStepTimer_programSafe safe
  | pacerExpiry => exact .of_due safe rfl fun _ => expirePacer_programSafe safe
  | conversionEnd => exact conversionEnd_answersPlaced placed
  | monitorIntervalExpiry => exact .of_due safe rfl fun _ => safe.congr (by simp) (by simp)
  | sampleSettleExpiry => exact sampleSettleExpiry_answersPlaced safe
  | unitBAbsorb => exact unitBAbsorb_answersPlaced safe
  | mapCommitCompletion => exact mapCommitCompletion_answersPlaced safe
  | trigEdge => exact .of_due safe rfl fun _ => edgeReport_programSafe (safe.congr (by simp) (by simp))
  | patternEvent => exact .of_due safe rfl fun _ => reportPattern_programSafe safe
  | byteReceived byte => exact ⟨_, rfl, safe.congr (by simp) (by simp)⟩
  | replyByteSent => exact replyByteSent_answersPlaced safe
  | comparatorSample => exact .of_due safe rfl fun _ => samplePattern_programSafe safe
  | lineWatcherSample => exact .of_due safe rfl fun _ => sampleLine_programSafe safe

theorem advance_programSafe {s : State} (safe : ProgramSafe s) : ProgramSafe (advance s) :=
  ⟨safe.length, safe.armed, safe.place, safe.sampleCount⟩

theorem arrive_place (s : State) : (arrive s).ps = s.ps ∧ (arrive s).seq = s.seq := by
  unfold arrive
  split <;> simp

/-- A microsecond moves no step; with RSTN low the part is at its power-on values (R183). -/
theorem tick_programSafe {s : State} (safe : ProgramSafe s) : ProgramSafe (tick s) := by
  have arrived : ProgramSafe (arrive s) := safe.congr (arrive_place s).1 (arrive_place s).2
  unfold tick
  dsimp only
  split_ifs
  · exact (advance_programSafe arrived).congr rfl rfl
  · exact (powerOnReset_programSafe (arrive s)).congr rfl rfl

theorem idle_programSafe {s t : State} (placed : RunPlaced s) (idles : idle s = .next t) : ProgramSafe t := by
  unfold idle at idles
  split at idles
  · rename_i c _
    obtain ⟨u, next, safe⟩ := exec_answersPlaced placed c
    rw [next] at idles
    cases idles
    exact safe
  · cases idles
    exact tick_programSafe placed.program

/-- Settles O58: every command keeps the place (`exec_answersPlaced`), and so does a microsecond. -/
theorem stepKeepsProgramSafe : Obligations.StepKeepsProgramSafe := by
  unfold Obligations.StepKeepsProgramSafe
  intro s t run safe steps
  have placed := runPlaced_of_safe run safe
  unfold step at steps
  split at steps
  · rename_i c rest _
    obtain ⟨u, next, kept⟩ := exec_answersPlaced (s := { s with pending := rest }) (placed.congr rfl rfl rfl rfl) c
    rw [next] at steps
    cases steps
    exact kept
  · exact idle_programSafe placed steps

end Sys2Proof.Machine
end

section
/-! PROOFS. The requests of the Program Store and the reads (O14, O15, O16). -/

namespace Sys2Proof.Machine

/-! ## A request at the head of the buffer, its LEN right -/

/-- The state with these frames in the request buffer. -/
def State.awaiting (s : State) (frames : List Frame) : State := { s with lp.requests := frames }

/-- The head frame of a ready port leaves the rest of the buffer. -/
theorem takeRequest_ready {f : Frame} {rest : List Frame} {s : State} (ready : s.ready f rest) :
    takeRequest s = s.awaiting rest := by
  obtain ⟨-, -, head⟩ := ready
  simp [takeRequest, State.awaiting, head]

/-- With the LEN its kind asks for a request is its owner's, on the state without its frame (R163). -/
theorem owner_serves {kind tag : Byte} {body : List Byte} {rest : List Frame} {s : State} {lengthOk : Bool}
    {owner : State → State} {outcome : Host.Outcome State Fault Refusal} (ready : s.ready ⟨kind, tag, body⟩ rest)
    (meaning : outcome = .next (serve kind tag body lengthOk owner s)) (length : lengthOk = true) :
    outcome = .next (owner (s.awaiting rest)) := by
  rw [served ready meaning, if_pos length, takeRequest_ready ready]

/-! ## PROGRAM TRIM (R13) -/

section Trim

variable {s : State} (tag k : Byte)

theorem programTrimRequest_busy (active : s.active = true) :
    programTrimRequest tag [k] s = refuse kindProgramTrim tag .busy s :=
  if_pos active

theorem programTrimRequest_range (idle : s.active = false) (above : s.ps.length < k.toNat) :
    programTrimRequest tag [k] s = refuse kindProgramTrim tag .range s := by
  simp [programTrimRequest, idle, above]

theorem programTrimRequest_sets (idle : s.active = false) (within : k.toNat ≤ s.ps.length) :
    programTrimRequest tag [k] s = ack kindProgramTrim tag [k] { s with ps.length := k.toNat } := by
  simp [programTrimRequest, idle, within]

end Trim

/-- Settles O15: PROGRAM TRIM by its three outcomes. -/
theorem programTrimSetsLength : Obligations.ProgramTrimSetsLength := by
  unfold Obligations.ProgramTrimSetsLength
  intro s tag k rest ready
  have meaning : exec (.programTrim tag [k]) s = .next (programTrimRequest tag [k] (s.awaiting rest)) :=
    owner_serves ready rfl rfl
  rw [meaning]
  refine ⟨fun active => ?_, fun stopped => ⟨fun above => ?_, fun within => ?_⟩⟩
  · exact congrArg _ (programTrimRequest_busy (s := s.awaiting rest) tag k (active_of_ne active))
  · exact congrArg _ (programTrimRequest_range (s := s.awaiting rest) tag k (inactive_of_eq stopped) above)
  · exact congrArg _ (programTrimRequest_sets (s := s.awaiting rest) tag k (inactive_of_eq stopped) within)

/-! ## PROGRAM LOAD (R11, R12) -/

section Load

variable {s : State} (tag start n : Byte) (bytes : List Byte)

theorem programLoadRequest_busy (active : s.active = true) :
    programLoadRequest tag (start :: n :: bytes) s = refuse kindProgramLoad tag .busy s :=
  if_pos active

theorem programLoadRequest_count (idle : s.active = false) (count : n.toNat = 0 ∨ 8 < n.toNat) :
    programLoadRequest tag (start :: n :: bytes) s = refuse kindProgramLoad tag .badField s := by
  simp [programLoadRequest, idle, count]

variable {n} (least : 1 ≤ n.toNat) (few : n.toNat ≤ 8)

include least few in
theorem programLoadRequest_gap (idle : s.active = false) (gap : s.ps.length < start.toNat) :
    programLoadRequest tag (start :: n :: bytes) s = refuse kindProgramLoad tag .gap s := by
  have count : ¬ (n.toNat = 0 ∨ 8 < n.toNat) := by omega
  simp only [programLoadRequest, idle, count, gap, Bool.false_eq_true, if_false, if_true]

include least few in
theorem programLoadRequest_range (idle : s.active = false) (joins : start.toNat ≤ s.ps.length)
    (beyond : 64 < start.toNat + n.toNat) :
    programLoadRequest tag (start :: n :: bytes) s = refuse kindProgramLoad tag .range s := by
  have count : ¬ (n.toNat = 0 ∨ 8 < n.toNat) := by omega
  have noGap : ¬ s.ps.length < start.toNat := by omega
  simp only [programLoadRequest, idle, count, noGap, Config.programCapacity, beyond, Bool.false_eq_true, if_false,
    if_true]

include least few in
/-- With the first four checks passed the entries are read: none where one of them is invalid (TABLE 1.4). -/
theorem programLoadRequest_invalid (idle : s.active = false) (joins : start.toNat ≤ s.ps.length)
    (fits : start.toNat + n.toNat ≤ 64) (invalid : entries? n.toNat bytes = none) :
    programLoadRequest tag (start :: n :: bytes) s = refuse kindProgramLoad tag .badField s := by
  have count : ¬ (n.toNat = 0 ∨ 8 < n.toNat) := by omega
  have noGap : ¬ s.ps.length < start.toNat := by omega
  have room : ¬ 64 < start.toNat + n.toNat := by omega
  simp only [programLoadRequest, idle, count, noGap, Config.programCapacity, room, Bool.false_eq_true, if_false,
    invalid]

include least few in
theorem programLoadRequest_loads (idle : s.active = false) (joins : start.toNat ≤ s.ps.length)
    (fits : start.toNat + n.toNat ≤ 64) {entries : List Entry} (read : entries? n.toNat bytes = some entries) :
    programLoadRequest tag (start :: n :: bytes) s =
      ack kindProgramLoad tag [(loadProgram start.toNat entries s).lengthByte]
        (loadProgram start.toNat entries s) := by
  have count : ¬ (n.toNat = 0 ∨ 8 < n.toNat) := by omega
  have noGap : ¬ s.ps.length < start.toNat := by omega
  have room : ¬ 64 < start.toNat + n.toNat := by omega
  simp only [programLoadRequest, idle, count, noGap, Config.programCapacity, room, Bool.false_eq_true, if_false, read]

end Load

/-- The ACK of an accepted load on the state without its frame carries the length (R12). -/
theorem ack_loadProgram (rest : List Frame) (tag : Byte) (start : Nat) (entries : List Entry) (s : State) :
    ack kindProgramLoad tag [(loadProgram start entries (s.awaiting rest)).lengthByte]
        (loadProgram start entries (s.awaiting rest)) =
      answered rest 0x90 tag [BitVec.ofNat 8 (max s.ps.length (start + entries.length))]
        (loadProgram start entries s) := rfl

/-- The slots and the zones after an accepted load: the entries and NORMAL in their range, all else as before (R12). -/
theorem loadProgram_get (start : Nat) (entries : List Entry) (s : State) (i : Fin 64) :
    (start ≤ i.val ∧ i.val < start + entries.length →
      entries[i.val - start]? = some ((loadProgram start entries s).ps.slots.get i) ∧
      (loadProgram start entries s).fm.zones.get i = .normal) ∧
    (i.val < start ∨ start + entries.length ≤ i.val →
      (loadProgram start entries s).ps.slots.get i = s.ps.slots.get i ∧
      (loadProgram start entries s).fm.zones.get i = s.fm.zones.get i) := by
  simp only [loadProgram, get_writeFrom, get_fillFrom]
  refine ⟨fun ⟨low, high⟩ => ?_, fun outside => ?_⟩
  · have inside : i.val - start < entries.length := by omega
    simp [low, high, inside]
  · have zone : ¬ (start ≤ i.val ∧ i.val < start + entries.length) := by omega
    rw [if_neg zone]
    refine ⟨?_, rfl⟩
    split_ifs with low
    · rw [List.getElem?_eq_none (by omega), Option.getD_none]
    · rfl

/-- Settles O14: PROGRAM LOAD by the checks of TABLE 1.4, in order, and what an accepted load writes. -/
theorem programLoadWritesSlots : Obligations.ProgramLoadWritesSlots := by
  unfold Obligations.ProgramLoadWritesSlots
  intro s tag start n bytes rest ready length
  have meaning : exec (.programLoad tag (start :: n :: bytes)) s =
      .next (programLoadRequest tag (start :: n :: bytes) (s.awaiting rest)) :=
    owner_serves ready rfl (by simpa [programLoadLength] using length)
  rw [meaning]
  refine ⟨fun active => ?_, fun stopped => ?_⟩
  · exact congrArg _ (programLoadRequest_busy (s := s.awaiting rest) tag start n bytes (active_of_ne active))
  have idle : (s.awaiting rest).active = false := inactive_of_eq stopped
  refine ⟨fun count => ?_, fun least few => ⟨fun gap => ?_, fun joins beyond => ?_, fun joins fits => ?_⟩⟩
  · exact congrArg _ (programLoadRequest_count tag start n bytes idle count)
  · exact congrArg _ (programLoadRequest_gap tag start bytes least few idle gap)
  · exact congrArg _ (programLoadRequest_range tag start bytes least few idle joins beyond)
  refine ⟨fun invalid => congrArg _ (programLoadRequest_invalid tag start bytes least few idle joins fits invalid),
    fun entries read => ?_⟩
  have size : entries.length = n.toNat := entries?_length read
  refine ⟨(loadProgram start.toNat entries s).ps.slots, (loadProgram start.toNat entries s).fm.zones, ?_, ?_⟩
  · rw [programLoadRequest_loads tag start bytes least few idle joins fits read, ack_loadProgram, ← size]
    rfl
  · rw [← size]; exact loadProgram_get start.toNat entries s

/-! ## The reads (R14, R84, R122) -/

/-- PROGRAM READ: a count out of range, entries beyond the length, else the length and the entries as stored (R14). -/
theorem programRead_returns (s : State) (tag start count : Byte) (rest : List Frame)
    (ready : s.ready ⟨0x12, tag, [start, count]⟩ rest) :
    (count.toNat = 0 ∨ 8 < count.toNat →
      exec (.programRead tag [start, count]) s = .next (declined rest 0x12 tag .badField s)) ∧
    (1 ≤ count.toNat → count.toNat ≤ 8 →
      (s.ps.length < start.toNat + count.toNat →
        exec (.programRead tag [start, count]) s = .next (declined rest 0x12 tag .range s)) ∧
      (start.toNat + count.toNat ≤ s.ps.length →
        exec (.programRead tag [start, count]) s =
          .next (answered rest 0x92 tag
            ([BitVec.ofNat 8 s.ps.length, start, count] ++
              ((s.ps.slots.toList.drop start.toNat).take count.toNat).flatMap Entry.bytes) s))) := by
  have meaning : exec (.programRead tag [start, count]) s =
      .next (programReadRequest tag [start, count] (s.awaiting rest)) :=
    owner_serves ready rfl rfl
  rw [meaning]
  refine ⟨fun bad => congrArg _ (if_pos bad), fun least few => ?_⟩
  have good : ¬ (count.toNat = 0 ∨ 8 < count.toNat) := by omega
  exact ⟨fun beyond => congrArg _ ((if_neg good).trans (if_pos beyond)),
    fun within => congrArg _ ((if_neg good).trans (if_neg (Nat.not_lt.mpr within)))⟩

/-- PROFILE READ: a number above 15, else the active record and what is staged (R84). -/
theorem profileRead_returns (s : State) (tag number : Byte) (rest : List Frame)
    (ready : s.ready ⟨0x31, tag, [number]⟩ rest) :
    (16 ≤ number.toNat → exec (.profileRead tag [number]) s = .next (declined rest 0x31 tag .badField s)) ∧
    (∀ i : Fin 16, number.toNat = i.val →
      exec (.profileRead tag [number]) s =
        .next (answered rest 0xB1 tag
          ([number] ++ (s.fm.active.get i).bytes ++
            (match s.fm.staged.get i with | some p => 0x01 :: p.bytes | none => [0x00])) s)) := by
  have meaning : exec (.profileRead tag [number]) s =
      .next (profileReadRequest tag [number] (s.awaiting rest)) :=
    owner_serves ready rfl rfl
  rw [meaning]
  refine ⟨fun above => ?_, fun i number_i => ?_⟩
  · simp only [profileReadRequest, nibble?_none above]; rfl
  · simp only [profileReadRequest, nibble?_eq number_i]; rfl

/-- MAP READ: a field out of range, entries beyond the half, else the page record and the entries as stored (R122). -/
theorem mapRead_returns (s : State) (tag page half start count : Byte) (rest : List Frame)
    (ready : s.ready ⟨0x3B, tag, [page, half, start, count]⟩ rest) :
    (16 ≤ page.toNat ∨ 2 ≤ half.toNat ∨ count.toNat = 0 ∨ 64 < count.toNat →
      exec (.mapRead tag [page, half, start, count]) s = .next (declined rest 0x3B tag .badField s)) ∧
    (∀ (i : Fin 16) (h : Half), page.toNat = i.val → half = h.byte → 1 ≤ count.toNat → count.toNat ≤ 64 →
      (256 < start.toNat + count.toNat →
        exec (.mapRead tag [page, half, start, count]) s = .next (declined rest 0x3B tag .range s)) ∧
      (start.toNat + count.toNat ≤ 256 →
        exec (.mapRead tag [page, half, start, count]) s =
          .next (answered rest 0xBB tag
            ([page, (s.tm.pages.get i).live.byte, (s.tm.pages.get i).stateA.byte, (s.tm.pages.get i).stateB.byte,
              if (s.tm.pages.get i).pending then 1 else 0] ++ bytesLE 4 (s.tm.pages.get i).lastResidue.toNat ++
              [half, start, count] ++
              wordBytes ((((s.tm.pages.get i).entries h).toList.drop start.toNat).take count.toNat)) s))) := by
  have meaning : exec (.mapRead tag [page, half, start, count]) s =
      .next (mapReadRequest tag [page, half, start, count] (s.awaiting rest)) :=
    owner_serves ready rfl rfl
  rw [meaning]
  refine ⟨fun bad => ?_, fun i h page_i half_h least few => ?_⟩
  · unfold mapReadRequest
    dsimp only
    split
    · rename_i i h page_i half_h
      have badCount : count.toNat = 0 ∨ 64 < count.toNat := by
        obtain above | above | bad := bad
        · rw [nibble?_none above] at page_i; cases page_i
        · rw [half?_none above] at half_h; cases half_h
        · exact bad
      rw [if_pos badCount]; rfl
    · rfl
  · have good : ¬ (count.toNat = 0 ∨ 64 < count.toNat) := by omega
    subst half_h
    simp only [mapReadRequest, nibble?_eq page_i, half?_byte, good, if_false, Config.halfEntries]
    exact ⟨fun beyond => congrArg _ (if_pos beyond), fun within => congrArg _ (if_neg (Nat.not_lt.mpr within))⟩

/-- Settles O16: the three reads. -/
theorem readsReturnWhatIsStored : Obligations.ReadsReturnWhatIsStored := by
  unfold Obligations.ReadsReturnWhatIsStored
  exact ⟨programRead_returns, profileRead_returns, mapRead_returns⟩

end Sys2Proof.Machine
end

section
/-! PROOFS. The invariants in the reset state (O60). -/

namespace Sys2Proof.Machine

/-! ## The invariants at reset -/

theorem linkSafe_reset : LinkSafe State.reset where
  slots := Nat.zero_le _
  bodies := nofun
  receiver := trivial
  gap := ⟨fun _ => rfl, nofun⟩
  inBreak := nofun
  sinceReset := Nat.zero_le _
  oneAtATime := fun busy => absurd rfl busy
  abandoned := nofun
  reply := nofun

theorem runSafe_reset : RunSafe State.reset where
  capacity := Nat.zero_le _
  markerPlace := nofun
  held := ⟨nofun, nofun⟩
  discard := fun _ => rfl
  stepClaim := ⟨nofun, nofun⟩
  monitorClaim := ⟨nofun, nofun⟩
  sampleClaim := ⟨nofun, nofun⟩
  monitor := fun busy => absurd rfl busy
  sampling := fun _ => rfl
  sums := nofun
  oneAtATime := fun busy => absurd rfl busy

/-- Every page is erased at reset (R124). -/
theorem reset_page (i : Fin 16) : State.reset.tm.pages.get i = Page.erased := get_replicate Page.erased i

theorem mapSafe_reset : MapSafe State.reset where
  live i := by rw [reset_page]; exact .inr ⟨rfl, rfl⟩
  empty i h _ j := by rw [reset_page]; cases h <;> exact get_replicate _ _
  pending i pending := by rw [reset_page] at pending; cases pending
  job := nofun
  checking := ⟨nofun, nofun⟩
  entryCount := Nat.zero_le _

/-- No profile is staged at reset (R103). -/
theorem reset_staged (i : Fin 16) : State.reset.fm.staged.get i = none := get_replicate none i

theorem settingsSafe_reset : SettingsSafe State.reset where
  active i := by
    rw [show State.reset.fm.active.get i = Profile.powerOn from get_replicate _ _]
    exact Nat.zero_le _
  staged i p staged := by rw [reset_staged] at staged; cases staged
  stopped _ := reset_staged
  level := ⟨by decide, by decide⟩
  interval := .inl rfl
  pairing := nofun
  monitorInterval := by decide

theorem powerOn_valid : CheckConfig.powerOn.valid := ⟨by decide, by decide, by decide, by decide⟩

theorem residueSafe_reset : ResidueSafe State.reset where
  configA := powerOn_valid
  configB := powerOn_valid
  residueA := show (0xFFFF : BitVec 32).toNat < 2 ^ 16 by decide
  residueB := nofun
  checking := nofun

theorem programSafe_reset : ProgramSafe State.reset := powerOnReset_programSafe State.reset

theorem timersSafe_reset : TimersSafe State.reset where
  watchers := ⟨⟨nofun, fun active => absurd rfl active⟩, ⟨nofun, fun active => absurd rfl active⟩⟩
  pacer := ⟨nofun, fun ⟨active, _⟩ => absurd rfl active⟩
  waiting := nofun
  settle := ⟨nofun, nofun⟩
  stepTimer _ := rfl
  pauseMark _ := rfl

/-- Settles O60: the seven invariants, each at the power-on values. -/
theorem invariantsHoldAtReset : Obligations.InvariantsHoldAtReset := by
  unfold Obligations.InvariantsHoldAtReset
  exact ⟨linkSafe_reset, runSafe_reset, mapSafe_reset, settingsSafe_reset, residueSafe_reset, programSafe_reset,
    timersSafe_reset⟩

end Sys2Proof.Machine
end

section
/-! PROOFS. Which bytes the readers of bodies take (O52). -/

namespace Sys2Proof.Machine

/-! ## Which codes a field takes (TABLES 10.4 to 10.10) -/

theorem nibble?_isSome (b : Byte) : (nibble? b).isSome = true ↔ b.toNat < 16 := by
  unfold nibble?; split_ifs with h <;> simp [h]

theorem code?_isSome (b0 b1 : Byte) : (code? b0 b1).isSome = true ↔ num16 b0 b1 < 16384 := by
  unfold code?; split_ifs with h <;> simp [h]

theorem mark?_isSome (b : Byte) : (mark? b).isSome = true ↔ b.toNat < 2 := by
  unfold mark?; split_ifs <;> simp <;> bv_omega

theorem source?_isSome (b : Byte) : (source? b).isSome = true ↔ b.toNat < 2 := by
  unfold source?; split_ifs <;> simp <;> bv_omega

theorem range?_isSome (b : Byte) : (range? b).isSome = true ↔ b.toNat < 4 := by
  unfold range?; split_ifs <;> simp <;> bv_omega

theorem averaging?_isSome (b : Byte) : (averaging? b).isSome = true ↔ b = 1 ∨ b = 2 ∨ b = 4 ∨ b = 8 := by
  unfold averaging?; split_ifs <;> simp_all

theorem startSource?_isSome (b : Byte) : (startSource? b).isSome = true ↔ b.toNat < 4 := by
  unfold startSource?; split_ifs <;> simp <;> bv_omega

theorem pauseRelease?_isSome (b : Byte) : (pauseRelease? b).isSome = true ↔ b.toNat < 2 := by
  unfold pauseRelease?; split_ifs <;> simp <;> bv_omega

theorem pauseRelease?_line {b : Byte} {release : PauseRelease} (read : pauseRelease? b = some release) :
    release = .line ↔ b = 1 := by
  unfold pauseRelease? at read
  split_ifs at read with zero one
  · cases read; simp [zero]
  · cases read; simp [one]

theorem fullPolicy?_isSome (b : Byte) : (fullPolicy? b).isSome = true ↔ b.toNat < 2 := by
  unfold fullPolicy?; split_ifs <;> simp <;> bv_omega

theorem form?_isSome (b : Byte) : (form? b).isSome = true ↔ b.toNat < 4 := by
  unfold form?; split_ifs <;> simp <;> bv_omega

theorem condition?_isSome (n : Nat) : (condition? n).isSome = true ↔ n ≤ 10 := by
  unfold condition?; split_ifs <;> simp <;> omega

/-! ## Readers of bodies: field after field -/

/-- A reader that reads a field and goes on accepts where the field is valid and the rest is. -/
theorem isSome_bind_iff {α β : Type} {x : Option α} {f : α → Option β} {q : Prop}
    (rest : ∀ a, x = some a → ((f a).isSome = true ↔ q)) : (x >>= f).isSome = true ↔ x.isSome = true ∧ q := by
  cases x with
  | none => simp
  | some a => simpa using rest a rfl

/-- The last test of a reader. -/
theorem isSome_ite_iff {α : Type} {p : Prop} [Decidable p] (a : α) :
    (if p then some a else none).isSome = true ↔ p := by
  split_ifs with h <;> simp [h]

theorem slot?_isSome (b : Byte) : (slot? b).isSome = true ↔ b.toNat % 16 ≤ 10 ∧ b.toNat / 16 % 8 = 0 := by
  rw [← condition?_isSome]
  exact isSome_bind_iff fun _ _ => isSome_ite_iff _

/-- The entry's reader refuses what TABLE 10.4 excludes, and nothing else (R2, R177). -/
theorem entry?_isSome (b0 b1 b2 b3 b4 b5 b6 b7 b8 : Byte) :
    (entry? [b0, b1, b2, b3, b4, b5, b6, b7, b8]).isSome = true ↔
      b0.toNat < 2 ∧ b1.toNat < 16 ∧ b2.toNat < 4 ∧ (b3 = 1 ∨ b3 = 2 ∨ b3 = 4 ∨ b3 = 8) ∧ b4.toNat < 16 ∧
        b5.toNat < 8 := by
  rw [← source?_isSome, ← nibble?_isSome, ← range?_isSome, ← averaging?_isSome, ← nibble?_isSome]
  unfold entry?
  iterate 5 refine isSome_bind_iff fun _ _ => ?_
  exact isSome_ite_iff _

/-- An entry read has the pattern of its byte where it is marked present, and none where it is not (R2, R177). -/
theorem entry?_pattern {b0 b1 b2 b3 b4 b5 b6 b7 b8 : Byte} {e : Entry}
    (read : entry? [b0, b1, b2, b3, b4, b5, b6, b7, b8] = some e) :
    e.pattern = if b5.getLsbD 2 then some b6 else none := by
  simp only [entry?, Option.bind_eq_bind, Option.bind_eq_some_iff] at read
  obtain ⟨_, -, _, -, _, -, _, -, _, -, last⟩ := read
  obtain ⟨-, same⟩ := Option.ite_none_right_eq_some.mp last
  rw [← Option.some.inj same]

/-- The entries read are those of the nine bytes each, in order (R11). -/
theorem entries?_getElem? : ∀ {n : Nat} {bytes : List Byte} {es : List Entry}, entries? n bytes = some es →
    ∀ i, i < n → es[i]? = entry? ((bytes.drop (9 * i)).take 9)
  | 0, _, _, _, _, inside => absurd inside (Nat.not_lt_zero _)
  | n + 1, bytes, es, read, i, inside => by
    simp only [entries?, Option.bind_eq_bind, Option.bind_eq_some_iff, Option.some.injEq] at read
    obtain ⟨e, first, more, others, rfl⟩ := read
    cases i with
    | zero => simp [first]
    | succ i =>
      rw [List.getElem?_cons_succ, entries?_getElem? others i (Nat.lt_of_succ_lt_succ inside), List.drop_drop,
        Nat.mul_succ, Nat.add_comm]

/-- One invalid entry refuses the list (R11). -/
theorem entries?_none {n i : Nat} {bytes : List Byte} (inside : i < n)
    (invalid : entry? ((bytes.drop (9 * i)).take 9) = none) : entries? n bytes = none := by
  cases read : entries? n bytes with
  | none => rfl
  | some es =>
    have beyond : es[i]? = none := (entries?_getElem? read i inside).trans invalid
    rw [List.getElem?_eq_none_iff, entries?_length read] at beyond
    omega

/-- ARM's reader refuses what TABLE 2.4 excludes in its third check, and nothing else (R20). -/
theorem arm?_isSome (b0 b1 b2 b3 b4 b5 b6 b7 b8 b9 b10 b11 b12 : Byte) :
    (arm? [b0, b1, b2, b3, b4, b5, b6, b7, b8, b9, b10, b11, b12]).isSome = true ↔
      (num24 b2 b3 b4 = 0 ∨ 100 ≤ num24 b2 b3 b4) ∧ b7.toNat < 4 ∧ b8.toNat < 8 ∧ b9.toNat < 2 ∧ b10.toNat < 2 ∧
        1 ≤ num16 b11 b12 ∧ num16 b11 b12 ≤ 1024 ∧ ¬ (b8.getLsbD 0 = true ∧ b9 = 1) := by
  have fields : (arm? [b0, b1, b2, b3, b4, b5, b6, b7, b8, b9, b10, b11, b12]).isSome = true ↔
      (startSource? b7).isSome = true ∧ (pauseRelease? b9).isSome = true ∧ (fullPolicy? b10).isSome = true ∧
        (num24 b2 b3 b4 = 0 ∨ 100 ≤ num24 b2 b3 b4) ∧ b8.toNat < 8 ∧ 1 ≤ num16 b11 b12 ∧ num16 b11 b12 ≤ 1024 ∧
        ¬ (b8.getLsbD 0 = true ∧ b9 = 1) := by
    unfold arm?
    refine isSome_bind_iff fun _ _ => isSome_bind_iff fun release read => isSome_bind_iff fun _ _ => ?_
    dsimp only
    rw [isSome_ite_iff, pauseRelease?_line read]
  rw [fields, startSource?_isSome, pauseRelease?_isSome, fullPolicy?_isSome]
  exact ⟨fun ⟨start, release, policy, interval, stops, low, high, pair⟩ =>
      ⟨interval, start, stops, release, policy, low, high, pair⟩,
    fun ⟨interval, start, stops, release, policy, low, high, pair⟩ =>
      ⟨start, release, policy, interval, stops, low, high, pair⟩⟩

/-- TRIGGER SET's reader refuses what the second check of R47 excludes, and nothing else. -/
theorem trigger?_isSome (b0 b1 b2 b3 b4 b5 b6 b7 b8 b9 b10 b11 : Byte) :
    (trigger? [b0, b1, b2, b3, b4, b5, b6, b7, b8, b9, b10, b11]).isSome = true ↔
      b0.toNat < 2 ∧ b3.toNat < 2 ∧ b4.toNat < 2 ∧ b5.toNat < 16 ∧ b6.toNat < 4 ∧ num16 b7 b8 < 16384 ∧
        b9.toNat < 2 ∧ 10 ≤ num16 b10 b11 := by
  rw [← mark?_isSome, ← mark?_isSome, ← mark?_isSome, ← nibble?_isSome, ← range?_isSome, ← code?_isSome,
    ← mark?_isSome]
  unfold trigger?
  iterate 7 refine isSome_bind_iff fun _ _ => ?_
  exact isSome_ite_iff _

/-- SAMPLE's reader refuses what the second check of R74 excludes, and nothing else. -/
theorem sample?_isSome (b0 b1 b2 b3 b4 b5 : Byte) :
    (sample? [b0, b1, b2, b3, b4, b5]).isSome = true ↔
      b0.toNat < 16 ∧ b1.toNat < 4 ∧ (b2 = 1 ∨ b2 = 2 ∨ b2 = 4 ∨ b2 = 8) ∧ b3.toNat < 16 := by
  have fields : (sample? [b0, b1, b2, b3, b4, b5]).isSome = true ↔
      (nibble? b0).isSome = true ∧ (range? b1).isSome = true ∧ (averaging? b2).isSome = true ∧
        (nibble? b3).isSome = true ∧ True := by
    unfold sample?
    iterate 4 refine isSome_bind_iff fun _ _ => ?_
    simp
  rw [fields, nibble?_isSome, range?_isSome, averaging?_isSome, nibble?_isSome, and_true]

/-- A profile's reader refuses what TABLE 5.1 excludes and L above H, and nothing else (R81). -/
theorem profile?_isSome (b0 b1 b2 b3 b4 b5 b6 b7 b8 b9 b10 b11 b12 b13 b14 b15 : Byte) :
    (profile? [b0, b1, b2, b3, b4, b5, b6, b7, b8, b9, b10, b11, b12, b13, b14, b15]).isSome = true ↔
      b0.toNat < 4 ∧ b1.toNat < 2 ∧ b2.toNat < 16 ∧ b3.toNat < 32 ∧ num16 b4 b5 < 16384 ∧ num16 b6 b7 < 16384 ∧
        num16 b8 b9 < 1024 ∧ num16 b10 b11 < 16384 ∧
        (∀ b ∈ [b12, b13, b14, b15], b.toNat % 16 ≤ 10 ∧ b.toNat / 16 % 8 = 0) ∧
        num16 b6 b7 ≤ num16 b4 b5 := by
  have fields : (profile? [b0, b1, b2, b3, b4, b5, b6, b7, b8, b9, b10, b11, b12, b13, b14, b15]).isSome = true ↔
      (form? b0).isSome = true ∧ (mark? b1).isSome = true ∧ (nibble? b2).isSome = true ∧
        (code? b4 b5).isSome = true ∧ (code? b6 b7).isSome = true ∧ (code? b10 b11).isSome = true ∧
        (slot? b12).isSome = true ∧ (slot? b13).isSome = true ∧ (slot? b14).isSome = true ∧
        (slot? b15).isSome = true ∧ b3.toNat < 32 ∧ num16 b8 b9 < 1024 ∧ num16 b6 b7 ≤ num16 b4 b5 := by
    unfold profile?
    iterate 3 refine isSome_bind_iff fun _ _ => ?_
    refine isSome_bind_iff fun high readHigh => isSome_bind_iff fun low readLow => ?_
    iterate 5 refine isSome_bind_iff fun _ _ => ?_
    rw [isSome_ite_iff, code?_value readHigh, code?_value readLow]
  simp only [fields, form?_isSome, mark?_isSome, nibble?_isSome, code?_isSome, slot?_isSome, List.forall_mem_cons,
    List.not_mem_nil, false_implies, implies_true, and_true]
  exact ⟨fun ⟨form, source, page, high, low, floor, slot0, slot1, slot2, slot3, marks, hysteresis, order⟩ =>
      ⟨form, source, page, marks, high, low, hysteresis, floor, ⟨slot0, slot1, slot2, slot3⟩, order⟩,
    fun ⟨form, source, page, marks, high, low, hysteresis, floor, ⟨slot0, slot1, slot2, slot3⟩, order⟩ =>
      ⟨form, source, page, high, low, floor, slot0, slot1, slot2, slot3, marks, hysteresis, order⟩⟩

/-- A check configuration's reader refuses what checks 3 to 5 of TABLE 7.3 exclude, and nothing else. -/
theorem checkConfig?_isSome (b0 b1 b2 b3 b4 b5 b6 b7 : Byte) :
    (checkConfig? [b0, b1, b2, b3, b4, b5, b6, b7]).isSome = true ↔
      8 ≤ b0.toNat ∧ b0.toNat ≤ 32 ∧ num32 b1 b2 b3 b4 ≠ 0 ∧ num32 b1 b2 b3 b4 < 2 ^ b0.toNat ∧ b5.toNat < 2 ∧
        b6.toNat < 2 ∧ b7.toNat < 2 := by
  have fields : (checkConfig? [b0, b1, b2, b3, b4, b5, b6, b7]).isSome = true ↔
      (mark? b5).isSome = true ∧ (mark? b6).isSome = true ∧ (mark? b7).isSome = true ∧ 8 ≤ b0.toNat ∧
        b0.toNat ≤ 32 ∧ num32 b1 b2 b3 b4 ≠ 0 ∧ num32 b1 b2 b3 b4 < 2 ^ b0.toNat := by
    unfold checkConfig?
    iterate 3 refine isSome_bind_iff fun _ _ => ?_
    exact isSome_ite_iff _
  rw [fields, mark?_isSome, mark?_isSome, mark?_isSome]
  exact ⟨fun ⟨initial, order, invert, narrow, wide, nonzero, below⟩ =>
      ⟨narrow, wide, nonzero, below, initial, order, invert⟩,
    fun ⟨narrow, wide, nonzero, below, initial, order, invert⟩ =>
      ⟨initial, order, invert, narrow, wide, nonzero, below⟩⟩

/-- Settles O52: each reader's exact condition. -/
theorem readersRefuseWhatTheTablesExclude : Obligations.ReadersRefuseWhatTheTablesExclude := by
  unfold Obligations.ReadersRefuseWhatTheTablesExclude
  refine ⟨fun n bytes _ => ⟨?_, fun es read => ⟨entries?_length read, entries?_getElem? read⟩⟩, ?_, entry?_isSome,
    arm?_isSome, trigger?_isSome, sample?_isSome, profile?_isSome, checkConfig?_isSome⟩
  · rintro ⟨i, inside, invalid⟩
    exact entries?_none inside invalid
  · intro b0 b1 b2 b3 b4 b5 b6 b7 b8 e read
    exact entry?_pattern read

end Sys2Proof.Machine
end

section
/-! PROOFS. All that a command can do to a run and to what the host has set: nothing, or one named action. An invariant
of the sequencer is then proved of the actions alone. -/

namespace Sys2Proof.Machine

/-! ## The part of the state a run lives in -/

/-- The sequencer, the trigger configuration, the watchers, the profiles, the queue level and the held slot stand. -/
structure SameRun (s t : State) : Prop where
  seq : t.seq = s.seq
  cfg : t.tu.cfg = s.tu.cfg
  watching : t.tu.lineWatching = s.tu.lineWatching ∧ t.tu.cmpWatching = s.tu.cmpWatching
  profiles : t.fm.active = s.fm.active ∧ t.fm.staged = s.fm.staged
  level : t.rq.level = s.rq.level
  held : t.rq.held = s.rq.held

theorem SameRun.refl (s : State) : SameRun s s := by constructor <;> simp

theorem SameRun.trans {s t u : State} (first : SameRun s t) (second : SameRun t u) : SameRun s u where
  seq := second.seq.trans first.seq
  cfg := second.cfg.trans first.cfg
  watching := ⟨second.watching.1.trans first.watching.1, second.watching.2.trans first.watching.2⟩
  profiles := ⟨second.profiles.1.trans first.profiles.1, second.profiles.2.trans first.profiles.2⟩
  level := second.level.trans first.level
  held := second.held.trans first.held

/-- The actions that touch a run or what the host has set, each with the condition it comes under. `claim` is the claim
on the Converter as the command found it. -/
inductive RunAction (claim : Option Claim) (s : State) : State → Prop
  | configured {cfg : TriggerConfig} {body : List Byte} (read : trigger? body = some cfg) :
      RunAction claim s { s with tu.cfg := cfg }
  | profileSet {p : Profile} {bytes : List Byte} (i : Fin 16) (read : profile? bytes = some p) :
      RunAction claim s (setProfile i p s)
  | armed {f : ArmFields} {body : List Byte} (idle : s.seq.state = .stopped) (read : arm? body = some f) :
      RunAction claim s (armRun f s)
  | started (armed : s.seq.state = .armed) : RunAction claim s (startTrigger s)
  | resumed (paused : s.seq.state = .paused) : RunAction claim s (releasePause s)
  | ended (cause : EndCause) : RunAction claim s (enterStopped cause s)
  | stopped (cause : EndCause) : RunAction claim s (runStop cause s)
  | released : RunAction claim s (releaseHeld s)
  | settled (settling : s.seq.state = .running .settling) : RunAction claim s (expireSettle s)
  | stepTimed (due : s.seq.stepTimer = .running 0) : RunAction claim s (expireStepTimer s)
  | paced (due : s.seq.pacer = some 0) : RunAction claim s (expirePacer s)
  | completed {c : Claim} (raw : Nat) (ovr : Bool) (found : claim = some c) (step : c.claimant = .step) :
      RunAction claim s (completeStep raw ovr s)
  | reset : RunAction claim s (resetEffect s)
  | poweredOn : RunAction claim s (powerOnReset s)

/-- What a command makes of a run: nothing, or one action beside changes elsewhere. -/
def RunEffect (s t : State) : Prop :=
  SameRun s t ∨ ∃ u v, SameRun s u ∧ RunAction s.cv.claim u v ∧ SameRun v t

theorem RunEffect.still {s t : State} (same : SameRun s t) : RunEffect s t := .inl same

theorem RunEffect.acts {s u v : State} (same : SameRun s u) (action : RunAction s.cv.claim u v) : RunEffect s v :=
  .inr ⟨u, v, same, action, .refl v⟩

theorem RunEffect.act {s t : State} (action : RunAction s.cv.claim s t) : RunEffect s t := .acts (.refl s) action

theorem RunEffect.after {s t u : State} (effect : RunEffect s t) (same : SameRun t u) : RunEffect s u := by
  obtain still | ⟨v, w, before, action, after⟩ := effect
  · exact .inl (still.trans same)
  · exact .inr ⟨v, w, before, action, after.trans same⟩

theorem RunEffect.before {s t u : State} (effect : RunEffect t u) (same : SameRun s t) (cv : t.cv = s.cv) :
    RunEffect s u := by
  obtain still | ⟨v, w, before, action, after⟩ := effect
  · exact .inl (same.trans still)
  · exact .inr ⟨v, w, same.trans before, cv ▸ action, after⟩

/-! ## An accepted ARM (R21) -/

/-- The state an accepted ARM prepares, before the start source is looked at. -/
def State.armedBy (f : ArmFields) (s : State) : State :=
  { s with
    seq := { s.seq with state := .armed, ctx := f.ctx, passNumber := 0, passesStarted := 0, missedTicks := 0,
                        stepIndex := 0, sampleCount := 0, pauseMark := false, endCause := .none }
    fm.zones := Vector.replicate 64 Zone.normal
    rq := { s.rq with policy := f.policy, level := f.level }
    tu := { s.tu with lineWatching := true, lineLevel := s.pins.trig, lineDue := false, cmpWatching := true,
                      prevMasked := s.pins.din &&& s.tu.cfg.mask, prevMatch := false, cmpDue := false,
                      monitor := .idle, monitorTimer := none, seenFalse := false } }

theorem armRun_now {f : ArmFields} (start : f.ctx.start = .now) (s : State) :
    armRun f s = startTrigger (s.armedBy f) := by
  unfold armRun; rw [start]; rfl

theorem armRun_level {f : ArmFields} (start : f.ctx.start = .level) (s : State) :
    armRun f s = startMonitor (s.armedBy f) := by
  unfold armRun; rw [start]; rfl

theorem armRun_waits {f : ArmFields} (start : f.ctx.start = .line ∨ f.ctx.start = .pattern) (s : State) :
    armRun f s = s.armedBy f := by
  unfold armRun
  obtain line | pattern := start
  · rw [line]; rfl
  · rw [pattern]; rfl

/-- All that an accepted ARM can do: the prepared state, from it the first pass, or the monitor timing. -/
theorem armRun_cases (f : ArmFields) (s : State) :
    armRun f s = startTrigger (s.armedBy f) ∨ SameRun (s.armedBy f) (armRun f s) := by
  cases start : f.ctx.start with
  | now => exact .inl (armRun_now start s)
  | level => rw [armRun_level start]; exact .inr (by constructor <;> simp [startMonitor])
  | line => rw [armRun_waits (.inl start)]; exact .inr (.refl _)
  | pattern => rw [armRun_waits (.inr start)]; exact .inr (.refl _)

/-! ## The requests -/

theorem putReply_same (r : Frame) (s : State) : SameRun s (putReply r s) := by constructor <;> simp

theorem ack_same (kind tag : Byte) (body : List Byte) (s : State) : SameRun s (ack kind tag body s) := putReply_same _ s

theorem refuse_same (kind tag : Byte) (reason : Reason) (s : State) : SameRun s (refuse kind tag reason s) :=
  putReply_same _ s

theorem refuse_runEffect (kind tag : Byte) (reason : Reason) (s : State) : RunEffect s (refuse kind tag reason s) :=
  .still (refuse_same kind tag reason s)

/-- An owner of a request that leaves the run and the settings alone. -/
def KeepsRun (owner : State → State) : Prop := ∀ s, SameRun s (owner s)

theorem attentionSetRequest_keepsRun (tag : Byte) (body : List Byte) : KeepsRun (attentionSetRequest tag body) := by
  intro s; unfold attentionSetRequest; repeat' split
  all_goals constructor <;> simp

theorem programLoadRequest_keepsRun (tag : Byte) (body : List Byte) : KeepsRun (programLoadRequest tag body) := by
  intro s; unfold programLoadRequest loadProgram; dsimp only; repeat' split
  all_goals constructor <;> simp

theorem programTrimRequest_keepsRun (tag : Byte) (body : List Byte) : KeepsRun (programTrimRequest tag body) := by
  intro s; unfold programTrimRequest; repeat' split
  all_goals constructor <;> simp

theorem programReadRequest_keepsRun (tag : Byte) (body : List Byte) : KeepsRun (programReadRequest tag body) := by
  intro s; unfold programReadRequest; repeat' split
  all_goals constructor <;> simp

theorem outputSetRequest_keepsRun (tag : Byte) (body : List Byte) : KeepsRun (outputSetRequest tag body) := by
  intro s; unfold outputSetRequest outputSetAck; repeat' split
  all_goals constructor <;> simp

theorem sampleRequest_keepsRun (tag : Byte) (body : List Byte) : KeepsRun (sampleRequest tag body) := by
  intro s; unfold sampleRequest; repeat' split
  all_goals constructor <;> simp

theorem profileReadRequest_keepsRun (tag : Byte) (body : List Byte) : KeepsRun (profileReadRequest tag body) := by
  intro s; unfold profileReadRequest; repeat' split
  all_goals constructor <;> simp

theorem substituteSetRequest_keepsRun (tag : Byte) (body : List Byte) : KeepsRun (substituteSetRequest tag body) := by
  intro s; unfold substituteSetRequest; repeat' split
  all_goals constructor <;> simp

theorem mapLoadRequest_keepsRun (tag : Byte) (body : List Byte) : KeepsRun (mapLoadRequest tag body) := by
  intro s; unfold mapLoadRequest putPage; repeat' split
  all_goals constructor <;> simp

theorem mapCommitRequest_keepsRun (tag : Byte) (body : List Byte) : KeepsRun (mapCommitRequest tag body) := by
  intro s; unfold mapCommitRequest beginCheck; repeat' split
  all_goals constructor <;> simp

theorem mapSwapRequest_keepsRun (tag : Byte) (body : List Byte) : KeepsRun (mapSwapRequest tag body) := by
  intro s; unfold mapSwapRequest putPage; dsimp only; repeat' split
  all_goals constructor <;> simp

theorem mapReadRequest_keepsRun (tag : Byte) (body : List Byte) : KeepsRun (mapReadRequest tag body) := by
  intro s; unfold mapReadRequest; repeat' split
  all_goals constructor <;> simp

theorem checkSetRequest_keepsRun (tag : Byte) (body : List Byte) : KeepsRun (checkSetRequest tag body) := by
  intro s; unfold checkSetRequest setCheck; repeat' split
  all_goals constructor <;> simp

theorem triggerSetRequest_runEffect (tag : Byte) (body : List Byte) (s : State) :
    RunEffect s (triggerSetRequest tag body s) := by
  unfold triggerSetRequest
  split_ifs
  · exact refuse_runEffect _ _ _ s
  · split
    · exact refuse_runEffect _ _ _ s
    · rename_i cfg read
      exact (RunEffect.act (.configured read)).after (ack_same _ _ _ _)

theorem profileSetRequest_runEffect (tag : Byte) (body : List Byte) (s : State) :
    RunEffect s (profileSetRequest tag body s) := by
  unfold profileSetRequest
  split
  · split
    · rename_i i p _ read
      exact (RunEffect.act (.profileSet i read)).after (ack_same _ _ _ _)
    · exact refuse_runEffect _ _ _ s
  · exact refuse_runEffect _ _ _ s

theorem armRequest_runEffect (tag : Byte) (body : List Byte) (s : State) : RunEffect s (armRequest tag body s) := by
  unfold armRequest
  split_ifs with active
  iterate 2 exact refuse_runEffect _ _ _ s
  split
  · exact refuse_runEffect _ _ _ s
  · rename_i f read
    exact (RunEffect.act (.armed (stopped_of_inactive active) read)).after (ack_same _ _ _ _)

theorem stopRun_runEffect (s : State) : RunEffect s (stopRun s) := by
  obtain ⟨-, same⟩ | ⟨-, ends⟩ | ⟨-, -, stops⟩ := stopRun_cases s
  · rw [same]; exact .still (.refl s)
  · rw [ends]; exact .act (.ended .request)
  · rw [stops]; exact .act (.stopped .request)

theorem stopRequest_runEffect (tag : Byte) (s : State) : RunEffect s (stopRequest tag s) :=
  (stopRun_runEffect s).after (ack_same _ _ _ _)

theorem resumeRequest_runEffect (tag : Byte) (s : State) : RunEffect s (resumeRequest tag s) := by
  unfold resumeRequest
  split_ifs with paused
  iterate 2 exact refuse_runEffect _ _ _ s
  exact (RunEffect.act (.resumed (not_not.mp paused))).after (ack_same _ _ _ _)

theorem drainRequest_runEffect (tag : Byte) (body : List Byte) (s : State) :
    RunEffect s (drainRequest tag body s) := by
  unfold drainRequest
  split
  · rename_i n
    split_ifs
    · exact refuse_runEffect _ _ _ s
    · have removed : SameRun s (removeRecords n.toNat s) := by constructor <;> simp [removeRecords]
      exact (RunEffect.acts removed .released).after (ack_same _ _ _ _)
  · exact refuse_runEffect _ _ _ s

theorem actIf_same {action : State → State} (named : Bool) (keeps : KeepsRun action) (s : State) :
    SameRun s (actIf named action s) := by
  cases named
  · exact .refl s
  · exact keeps s

/-- Of the actions of CLEAR only EMPTY_QUEUE touches a run: it may release a held record (R153, R144). -/
theorem clearActions_runEffect (actions : Byte) (s : State) : RunEffect s (clearActions actions s) := by
  have emptied : RunEffect s (actIf (actions.getLsbD 0) emptyQueueAction s) := by
    unfold actIf
    split_ifs
    · exact .acts (u := { s with rq.records := [], rq.lossMark := false }) (by constructor <;> simp) .released
    · exact .still (.refl s)
  have erasesProgram : KeepsRun eraseProgramAction := fun t => by constructor <;> simp
  have erasesMaps : KeepsRun eraseMapsAction := fun t => by constructor <;> simp
  have restsOutputs : KeepsRun restOutputsAction := fun t => by constructor <;> simp
  exact ((emptied.after (actIf_same _ erasesProgram _)).after (actIf_same _ erasesMaps _)).after
    (actIf_same _ restsOutputs _)

theorem clearOwner_runEffect (tag : Byte) (mask : BitVec 16) (actions : Byte) (s : State) :
    RunEffect s (clearOwner tag mask actions s) := by
  obtain bad | busy | ⟨-, cleared⟩ := clearOwner_cases tag mask actions s
  · rw [bad]; exact refuse_runEffect _ _ _ s
  · rw [busy]; exact refuse_runEffect _ _ _ s
  · rw [cleared]
    have flagged : SameRun s (clearFlags (mask.setWidth 14) s) := by constructor <;> simp
    exact ((clearActions_runEffect actions _).before flagged (by simp)).after (ack_same _ _ _ _)

theorem clearRequest_runEffect (tag : Byte) (body : List Byte) (s : State) :
    RunEffect s (clearRequest tag body s) := by
  unfold clearRequest
  split
  · exact clearOwner_runEffect _ _ _ s
  · exact refuse_runEffect _ _ _ s

/-- A request command has the effect of its owner, or none (R163; log 2). -/
theorem serve_runEffect {owner : State → State} (kind tag : Byte) (body : List Byte) (lengthOk : Bool)
    (owned : ∀ t, RunEffect t (owner t)) (s : State) : RunEffect s (serve kind tag body lengthOk owner s) := by
  have arrival : SameRun s (joinBuffer ⟨kind, tag, body⟩ (judgeGap s)) := by constructor <;> simp
  obtain same | ⟨-, joined⟩ | ⟨t, rest, origin, -, served⟩ := serve_cases kind tag body lengthOk owner s
  · rw [same]; exact .still (.refl s)
  · rw [joined]; exact .still arrival
  · have here : SameRun s (takeRequest t) ∧ (takeRequest t).cv = s.cv := by
      obtain rfl | ⟨-, rfl⟩ := origin
      · exact ⟨by constructor <;> simp, by simp⟩
      · exact ⟨arrival.trans (by constructor <;> simp), by simp⟩
    rw [served, beginService]
    split_ifs
    · exact (owned _).before here.1 here.2
    · exact (refuse_runEffect _ _ _ _).before here.1 here.2

/-! ## The events -/

theorem edgeReport_runEffect (s : State) : RunEffect s (edgeReport s) := by
  obtain same | ⟨armed, -, starts⟩ | ⟨paused, -, releases⟩ | ⟨-, -, -, stops⟩ := edgeReport_cases s
  · rw [same]; exact .still (.refl s)
  · rw [starts]; exact .act (.started armed)
  · rw [releases]; exact .act (.resumed paused)
  · rw [stops]; exact .act (.stopped .line)

theorem patternReport_runEffect (s : State) : RunEffect s (patternReport s) := by
  obtain same | ⟨armed, -, starts⟩ | ⟨-, -, -, stops⟩ := patternReport_cases s
  · rw [same]; exact .still (.refl s)
  · rw [starts]; exact .act (.started armed)
  · rw [stops]; exact .act (.stopped .pattern)

theorem keepLineSample_same (s : State) : SameRun s (keepLineSample s) := by constructor <;> simp

theorem keepPatternSample_same (s : State) : SameRun s (keepPatternSample s) := by constructor <;> simp

theorem reportEdge_runEffect (s : State) : RunEffect s (edgeReport (keepLineSample s)) :=
  (edgeReport_runEffect _).before (keepLineSample_same s) (by simp)

theorem reportPattern_runEffect (s : State) :
    RunEffect s (patternReport (raise .pattern (keepPatternSample s))) :=
  (patternReport_runEffect _).before ((keepPatternSample_same s).trans (by constructor <;> simp)) (by simp)

theorem sampleLine_runEffect (s : State) : RunEffect s (sampleLine s) := by
  unfold sampleLine
  split_ifs
  · exact reportEdge_runEffect s
  · exact .still (keepLineSample_same s)

theorem samplePattern_runEffect (s : State) : RunEffect s (samplePattern s) := by
  unfold samplePattern
  split_ifs
  · exact reportPattern_runEffect s
  · exact .still (keepPatternSample_same s)

theorem endReply_runEffect (r : Transmission) (s : State) : RunEffect s (endReply r s) := by
  have emptied : SameRun s { s with lp.reply := none } := by constructor <;> simp
  unfold endReply
  dsimp only
  split_ifs
  · exact .acts emptied .reset
  · exact .still emptied

theorem cutReply_runEffect (r : Transmission) (s : State) : RunEffect s (cutReply r s) :=
  (endReply_runEffect r s).after (by constructor <;> simp [cutReply])

theorem breakReply_runEffect (s : State) : RunEffect s (breakReply s) := by
  unfold breakReply
  split
  · exact .still (by constructor <;> simp)
  · split_ifs
    · exact cutReply_runEffect _ s
    · exact .still (by constructor <;> simp)

/-- The monitor's completion starts a run from ARMED or leaves runs alone, whatever claim was completed (R57). -/
theorem completeMonitor_runEffect {s t : State} (same : SameRun s t) (raw : Nat) :
    RunEffect s (completeMonitor raw t) := by
  have idle : SameRun t { t with tu.monitor := .idle, tu.monitorTimer := none } := by constructor <;> simp
  unfold completeMonitor
  dsimp only
  split_ifs with untrue first armed
  iterate 2 exact .still (same.trans (by constructor <;> simp))
  · exact .acts (same.trans idle) (.started armed)
  · exact .still (same.trans idle)

theorem completeSample_same (raw : Nat) (ovr : Bool) (s : State) : SameRun s (completeSample raw ovr s) := by
  unfold completeSample
  split <;> constructor <;> simp

/-- A conversion end touches a run as a step's completion or as a start trigger of the monitor (R71). -/
theorem endConversion_runEffect {s : State} {c : Claim} (claim : s.cv.claim = some c) :
    RunEffect s (endConversion c s) := by
  have idle : SameRun s { s with cv.claim := none } := by constructor <;> simp
  unfold endConversion
  split_ifs
  · exact .still (by constructor <;> simp)
  · unfold completeClaim
    dsimp only
    cases claimant : c.afterConversion.claimant with
    | step => exact .acts idle (.completed _ _ claim claimant)
    | monitor => exact completeMonitor_runEffect idle _
    | sample => exact .still (idle.trans (completeSample_same _ _ _))

/-! ## Every command and every step -/

/-- The command answers a next state, with one of the effects on a run. -/
def AnswersRun (c : Instr) (s : State) : Prop := ∃ t, exec c s = .next t ∧ RunEffect s t

theorem AnswersRun.of_serve {c : Instr} {s : State} {kind tag : Byte} {body : List Byte} {lengthOk : Bool}
    {owner : State → State} (meaning : exec c s = .next (serve kind tag body lengthOk owner s))
    (owned : ∀ t, RunEffect t (owner t)) : AnswersRun c s :=
  ⟨_, meaning, serve_runEffect _ _ _ _ owned s⟩

theorem AnswersRun.of_keeps {c : Instr} {s : State} {kind tag : Byte} {body : List Byte} {lengthOk : Bool}
    {owner : State → State} (meaning : exec c s = .next (serve kind tag body lengthOk owner s))
    (keeps : KeepsRun owner) : AnswersRun c s :=
  .of_serve meaning fun t => .still (keeps t)

/-- An event that acts where it is due and else changes nothing (log 1). -/
theorem AnswersRun.of_due {c : Instr} {s t : State} {due : Prop} {_ : Decidable due}
    (meaning : exec c s = .next (if due then t else s)) (acts : due → RunEffect s t) : AnswersRun c s := by
  refine ⟨_, meaning, ?_⟩
  split_ifs with h
  · exact acts h
  · exact .still (.refl s)

theorem unknownKind_answersRun (kind tag : Byte) (body : List Byte) (s : State) :
    AnswersRun (.unknownKind kind tag body) s := by
  refine ⟨_, rfl, ?_⟩
  split_ifs
  · exact .still (.refl s)
  · exact serve_runEffect _ _ _ _ (refuse_runEffect _ _ _) s

theorem frameComplete_answersRun (chk : Byte) (s : State) : AnswersRun (.frameComplete chk) s := by
  refine ⟨_, rfl, .still ?_⟩
  split <;> constructor <;> simp

theorem framingError_answersRun (s : State) : AnswersRun .framingError s := by
  refine ⟨_, rfl, .still ?_⟩
  split_ifs <;> constructor <;> simp

theorem linkBreak_answersRun (s : State) : AnswersRun .linkBreak s :=
  .of_due rfl fun _ => (breakReply_runEffect _).before (by constructor <;> simp [breakPort]) (by simp [breakPort])

theorem replyByteSent_answersRun (s : State) : AnswersRun .replyByteSent s := by
  refine ⟨_, rfl, ?_⟩
  split
  · split_ifs
    · exact cutReply_runEffect _ s
    iterate 2 exact .still (by constructor <;> simp)
    exact .still (.refl s)
  · exact .still (.refl s)

theorem replySent_answersRun (s : State) : AnswersRun .replySent s := by
  refine ⟨_, rfl, ?_⟩
  split
  · split_ifs
    · exact cutReply_runEffect _ s
    · exact endReply_runEffect _ s
    · exact .still (.refl s)
  · exact .still (.refl s)

theorem holdnRelease_answersRun (s : State) : AnswersRun .holdnRelease s := by
  refine ⟨_, rfl, .still ?_⟩
  split
  · split_ifs <;> constructor <;> simp
  · exact .refl s

theorem settleExpiry_answersRun (s : State) : AnswersRun .settleExpiry s := by
  refine .of_due rfl fun due => .act (.settled ?_)
  simp only [State.settleDue, Bool.and_eq_true, decide_eq_true_eq] at due
  exact due.1

theorem conversionEnd_answersRun (s : State) : AnswersRun .conversionEnd s := by
  refine ⟨_, rfl, ?_⟩
  split
  · rename_i c claim
    split_ifs
    · exact endConversion_runEffect claim
    · exact .still (.refl s)
  · exact .still (.refl s)

theorem sampleSettleExpiry_answersRun (s : State) : AnswersRun .sampleSettleExpiry s := by
  refine ⟨_, rfl, .still ?_⟩
  split <;> constructor <;> simp

theorem unitBAbsorb_answersRun (s : State) : AnswersRun .unitBAbsorb s := by
  refine ⟨_, rfl, .still ?_⟩
  split
  · split_ifs <;> constructor <;> simp [absorbEntry]
  · exact .refl s

theorem mapCommitCompletion_answersRun (s : State) : AnswersRun .mapCommitCompletion s := by
  refine ⟨_, rfl, .still ?_⟩
  split
  · split_ifs <;> constructor <;> simp [completeCheck, putPage]
  · exact .refl s

/-- Every command: the requests by their owners, the events by what they do where due. -/
theorem exec_answersRun (c : Instr) (s : State) : AnswersRun c s := by
  cases c with
  | identify tag body => exact .of_keeps rfl fun _ => ack_same _ _ _ _
  | status tag body => exact .of_keeps rfl fun _ => ack_same _ _ _ _
  | clear tag body => exact .of_serve rfl (clearRequest_runEffect tag body)
  | emptyQueue tag mask => exact .of_serve rfl (clearOwner_runEffect tag mask _)
  | eraseProgram tag mask => exact .of_serve rfl (clearOwner_runEffect tag mask _)
  | eraseMaps tag mask => exact .of_serve rfl (clearOwner_runEffect tag mask _)
  | restOutputs tag mask => exact .of_serve rfl (clearOwner_runEffect tag mask _)
  | attentionSet tag body => exact .of_keeps rfl (attentionSetRequest_keepsRun tag body)
  | reset tag body => exact .of_keeps rfl fun _ => ack_same _ _ _ _
  | programLoad tag body => exact .of_keeps rfl (programLoadRequest_keepsRun tag body)
  | programTrim tag body => exact .of_keeps rfl (programTrimRequest_keepsRun tag body)
  | programRead tag body => exact .of_keeps rfl (programReadRequest_keepsRun tag body)
  | triggerSet tag body => exact .of_serve rfl (triggerSetRequest_runEffect tag body)
  | outputSet tag body => exact .of_keeps rfl (outputSetRequest_keepsRun tag body)
  | arm tag body => exact .of_serve rfl (armRequest_runEffect tag body)
  | stop tag body => exact .of_serve rfl (stopRequest_runEffect tag)
  | resume tag body => exact .of_serve rfl (resumeRequest_runEffect tag)
  | sample tag body => exact .of_keeps rfl (sampleRequest_keepsRun tag body)
  | profileSet tag body => exact .of_serve rfl (profileSetRequest_runEffect tag body)
  | profileRead tag body => exact .of_keeps rfl (profileReadRequest_keepsRun tag body)
  | substituteSet tag body => exact .of_keeps rfl (substituteSetRequest_keepsRun tag body)
  | mapLoad tag body => exact .of_keeps rfl (mapLoadRequest_keepsRun tag body)
  | mapCommit tag body => exact .of_keeps rfl (mapCommitRequest_keepsRun tag body)
  | mapSwap tag body => exact .of_keeps rfl (mapSwapRequest_keepsRun tag body)
  | mapRead tag body => exact .of_keeps rfl (mapReadRequest_keepsRun tag body)
  | checkSet tag body => exact .of_keeps rfl (checkSetRequest_keepsRun tag body)
  | drain tag body => exact .of_serve rfl (drainRequest_runEffect tag body)
  | unknownKind kind tag body => exact unknownKind_answersRun kind tag body s
  | frameComplete chk => exact frameComplete_answersRun chk s
  | lenError len => exact .of_due rfl fun _ => .still (by constructor <;> simp)
  | gapTimeout => exact ⟨_, rfl, .still (by constructor <;> simp)⟩
  | framingError => exact framingError_answersRun s
  | linkBreak => exact linkBreak_answersRun s
  | breakEnd => exact .of_due rfl fun _ => .still (by constructor <;> simp)
  | replySent => exact replySent_answersRun s
  | holdnRelease => exact holdnRelease_answersRun s
  | powerOnReset => exact ⟨_, rfl, .act .poweredOn⟩
  | settleExpiry => exact settleExpiry_answersRun s
  | stepTimerExpiry => exact .of_due rfl fun due => .act (.stepTimed (of_decide_eq_true due))
  | pacerExpiry => exact .of_due rfl fun due => .act (.paced (of_decide_eq_true due))
  | conversionEnd => exact conversionEnd_answersRun s
  | monitorIntervalExpiry => exact .of_due rfl fun _ => .still (by constructor <;> simp)
  | sampleSettleExpiry => exact sampleSettleExpiry_answersRun s
  | unitBAbsorb => exact unitBAbsorb_answersRun s
  | mapCommitCompletion => exact mapCommitCompletion_answersRun s
  | trigEdge => exact .of_due rfl fun _ => reportEdge_runEffect s
  | patternEvent => exact .of_due rfl fun _ => reportPattern_runEffect s
  | byteReceived byte => exact ⟨_, rfl, .still (by constructor <;> simp)⟩
  | replyByteSent => exact replyByteSent_answersRun s
  | comparatorSample => exact .of_due rfl fun _ => samplePattern_runEffect s
  | lineWatcherSample => exact .of_due rfl fun _ => sampleLine_runEffect s

/-- All that a step can do to a run: the effect of a command, or a microsecond. -/
theorem step_runEffect {s t : State} (steps : step s = .next t) : RunEffect s t ∨ t = tick s := by
  unfold step at steps
  split at steps
  · rename_i c rest _
    obtain ⟨u, next, effect⟩ := exec_answersRun c { s with pending := rest }
    cases next.symm.trans steps
    exact .inl (effect.before (by constructor <;> simp) rfl)
  · unfold idle at steps
    split at steps
    · rename_i c _
      obtain ⟨u, next, effect⟩ := exec_answersRun c s
      cases next.symm.trans steps
      exact .inl effect
    · cases steps
      exact .inr rfl

/-- An invariant of the run is kept by every effect if the actions keep it. -/
theorem RunEffect.keeps {P : State → Prop} {s t : State} (effect : RunEffect s t)
    (congr : ∀ u v, SameRun u v → P u → P v)
    (actions : ∀ u v, SameRun s u → RunAction s.cv.claim u v → P u → P v) (here : P s) : P t := by
  obtain still | ⟨u, v, before, action, after⟩ := effect
  · exact congr s t still here
  · exact congr v t after (actions u v before action (congr s u before here))

end Sys2Proof.Machine
end

section
/-! PROOFS. Every step keeps what the host has set within its ranges (O56). -/

namespace Sys2Proof.Machine

/-! ## What the readers let through -/

theorem profile?_valid {bytes : List Byte} {p : Profile} (read : profile? bytes = some p) : p.valid := by
  unfold profile? at read
  split at read
  · simp only [Option.bind_eq_bind, Option.bind_eq_some_iff] at read
    obtain ⟨_, -, _, -, _, -, high, -, low, -, _, -, _, -, _, -, _, -, _, -, last⟩ := read
    obtain ⟨⟨-, -, order⟩, made⟩ := Option.ite_none_right_eq_some.mp last
    cases made
    exact order
  · cases read

/-- ARM's fields as read lie in the ranges of TABLE 2.3, and LINE does not both stop and release (R20). -/
theorem arm?_valid {bytes : List Byte} {f : ArmFields} (read : arm? bytes = some f) : f.valid := by
  unfold arm? at read
  split at read
  · rename_i b2 b3 b4 _ _ _ _ _ _ _ _
    simp only [Option.bind_eq_bind, Option.bind_eq_some_iff] at read
    obtain ⟨_, -, _, -, _, -, last⟩ := read
    obtain ⟨⟨interval, -, low, high, pair⟩, made⟩ := Option.ite_none_right_eq_some.mp last
    have fits : num24 b2 b3 b4 < 2 ^ 24 := by unfold num24; omega
    cases made
    refine ⟨interval.imp (fun zero => by rw [zero]; rfl) fun least => ?_, low, high, pair⟩
    rwa [BitVec.toNat_ofNat, Nat.mod_eq_of_lt fits]
  · cases read

theorem trigger?_interval {bytes : List Byte} {cfg : TriggerConfig} (read : trigger? bytes = some cfg) :
    10 ≤ cfg.monitorInterval.toNat := by
  unfold trigger? at read
  split at read
  · rename_i b10 b11
    simp only [Option.bind_eq_bind, Option.bind_eq_some_iff] at read
    obtain ⟨_, -, _, -, _, -, _, -, _, -, _, -, _, -, last⟩ := read
    obtain ⟨least, made⟩ := Option.ite_none_right_eq_some.mp last
    cases made
    rwa [BitVec.toNat_ofNat, Nat.mod_eq_of_lt (num16_lt b10 b11)]
  · cases read

/-! ## Two ways to keep the settings -/

/-- The profiles, the queue level, the run context and the trigger configuration stand. -/
structure SameSettings (s t : State) : Prop where
  profiles : t.fm.active = s.fm.active ∧ t.fm.staged = s.fm.staged
  level : t.rq.level = s.rq.level
  ctx : t.seq.ctx = s.seq.ctx
  cfg : t.tu.cfg = s.tu.cfg

/-- The settings stand, and STOPPED is not entered. -/
theorem SettingsSafe.move {s t : State} (safe : SettingsSafe s) (same : SameSettings s t)
    (outside : t.seq.state = .stopped → s.seq.state = .stopped) : SettingsSafe t where
  active i := by rw [same.profiles.1]; exact safe.active i
  staged i p staged := safe.staged i p (by rwa [← same.profiles.2])
  stopped state i := by rw [same.profiles.2]; exact safe.stopped (outside state) i
  level := same.level ▸ safe.level
  interval := same.ctx ▸ safe.interval
  pairing := same.ctx ▸ safe.pairing
  monitorInterval := same.cfg ▸ safe.monitorInterval

theorem SettingsSafe.congr {s t : State} (safe : SettingsSafe s) (same : SameRun s t) : SettingsSafe t :=
  safe.move ⟨same.profiles, same.level, by rw [same.seq], same.cfg⟩ fun state => by rwa [← same.seq]

theorem afterBoundary_valid {s : State} (safe : SettingsSafe s) (i : Fin 16) : (s.fm.afterBoundary i).valid := by
  unfold Formatter.afterBoundary
  cases staged : s.fm.staged.get i with
  | none => exact safe.active i
  | some p => exact safe.staged i p staged

/-- A pass boundary installs valid profiles and leaves nothing staged, so STOPPED may be entered with it (R82). -/
theorem SettingsSafe.installed {s t : State} (safe : SettingsSafe s) (fm : t.fm = s.fm.install)
    (level : t.rq.level = s.rq.level) (ctx : t.seq.ctx = s.seq.ctx) (cfg : t.tu.cfg = s.tu.cfg) : SettingsSafe t where
  active i := by rw [fm, install_active]; exact afterBoundary_valid safe i
  staged i p staged := by rw [fm, install_staged] at staged; cases staged
  stopped _ i := by rw [fm, install_staged]
  level := level ▸ safe.level
  interval := ctx ▸ safe.interval
  pairing := ctx ▸ safe.pairing
  monitorInterval := cfg ▸ safe.monitorInterval

/-! ## The actions of a run -/

theorem boundary_settingsSafe {s : State} (safe : SettingsSafe s) : SettingsSafe (boundary s) :=
  safe.installed (boundary_fm s) (by simp) (by simp) (by simp)

theorem enterStopped_settingsSafe {s : State} (cause : EndCause) (safe : SettingsSafe s) :
    SettingsSafe (enterStopped cause s) :=
  safe.installed (enterStopped_fm cause s) (by simp) (by simp) (by simp)

theorem appendMarker_settingsSafe {s : State} (status : MarkerStatus) (safe : SettingsSafe s) :
    SettingsSafe (appendMarker status s) :=
  safe.move (by constructor <;> simp) fun state => by simpa using state

theorem appendSample_settingsSafe {s : State} (r : SampleRecord) (safe : SettingsSafe s) :
    SettingsSafe (appendSample r s) :=
  safe.move (by constructor <;> simp) fun state => by simpa using state

theorem runStop_settingsSafe {s : State} (cause : EndCause) (safe : SettingsSafe s) :
    SettingsSafe (runStop cause s) := by
  have cleared : SettingsSafe (discardHeld (abandonStep s)) :=
    safe.move (by constructor <;> simp) fun state => by simpa using state
  unfold runStop
  dsimp only
  split_ifs
  · exact enterStopped_settingsSafe cause (appendMarker_settingsSafe .aborted cleared)
  · exact enterStopped_settingsSafe cause cleared

theorem stepBegin_running (s : State) : (stepBegin s).seq.state ≠ .stopped := by
  rw [stepBegin_state]; split_ifs <;> simp

theorem stepBegin_settingsSafe {s : State} (safe : SettingsSafe s) : SettingsSafe (stepBegin s) :=
  safe.move (by constructor <;> simp) fun state => absurd state (stepBegin_running s)

theorem nextStep_settingsSafe {s : State} (safe : SettingsSafe s) : SettingsSafe (nextStep s) :=
  stepBegin_settingsSafe (safe.move (by constructor <;> simp) id)

theorem releasePause_settingsSafe {s : State} (safe : SettingsSafe s) : SettingsSafe (releasePause s) :=
  stepBegin_settingsSafe (safe.move (by constructor <;> simp) id)

theorem passStart_settingsSafe {s : State} (safe : SettingsSafe s) : SettingsSafe (passStart s) :=
  stepBegin_settingsSafe (safe.move (by constructor <;> simp) id)

theorem startTrigger_settingsSafe {s : State} (safe : SettingsSafe s) : SettingsSafe (startTrigger s) :=
  passStart_settingsSafe (safe.move (by constructor <;> simp) fun state => by simpa using state)

/-- A run goes on by TABLE 2.5 with its settings in their ranges (R34). -/
theorem passContinue_settingsSafe {s : State} (stopCause : Bool) (safe : SettingsSafe s) :
    SettingsSafe (passContinue stopCause s) := by
  unfold passContinue
  split_ifs
  · exact enterStopped_settingsSafe .limit safe
  · exact enterStopped_settingsSafe .complete safe
  · exact passStart_settingsSafe safe
  · exact safe.move (by constructor <;> simp) nofun

theorem passEnd_settingsSafe {s : State} (stopCause : Bool) (safe : SettingsSafe s) :
    SettingsSafe (passEnd stopCause s) := by
  have flagged : SettingsSafe (raise .passEnd (appendMarker .complete s)) :=
    (appendMarker_settingsSafe .complete safe).congr (by constructor <;> simp)
  exact passContinue_settingsSafe stopCause (boundary_settingsSafe flagged)

theorem afterAppend_settingsSafe {s : State} (stopCause : Bool) (safe : SettingsSafe s) :
    SettingsSafe (afterAppend stopCause s) := by
  unfold afterAppend
  split_ifs
  · exact runStop_settingsSafe .limit safe
  · exact passEnd_settingsSafe stopCause safe
  · exact nextStep_settingsSafe safe
  · exact safe.move (by constructor <;> simp) nofun

theorem offerSample_settingsSafe {s : State} (o : Offer) (safe : SettingsSafe s) : SettingsSafe (offerSample o s) := by
  unfold offerSample
  split_ifs
  · exact safe.move (by constructor <;> simp) (by simp)
  · exact afterAppend_settingsSafe o.stopCause (appendSample_settingsSafe o.record safe)

theorem releaseHeld_settingsSafe {s : State} (safe : SettingsSafe s) : SettingsSafe (releaseHeld s) := by
  unfold releaseHeld
  split
  · rename_i o _
    split_ifs
    · have discarded : SettingsSafe (discardHeld s) := safe.move (by constructor <;> simp) (by simp)
      exact afterAppend_settingsSafe o.stopCause (appendSample_settingsSafe o.record discarded)
    · exact safe
  · exact safe

theorem expireSettle_settingsSafe {s : State} (safe : SettingsSafe s) : SettingsSafe (expireSettle s) := by
  unfold expireSettle
  dsimp only
  cases s.entry.source with
  | analog => exact safe.move (by constructor <;> simp [holdReading]) nofun
  | digital =>
    have held : SettingsSafe (holdReading s) := safe.move (by constructor <;> simp [holdReading]) id
    exact offerSample_settingsSafe _ held

theorem expireStepTimer_settingsSafe {s : State} (safe : SettingsSafe s) : SettingsSafe (expireStepTimer s) := by
  unfold expireStepTimer
  split_ifs
  · exact nextStep_settingsSafe safe
  · exact safe.move (by constructor <;> simp) id

theorem missTick_settingsSafe {s : State} (safe : SettingsSafe s) : SettingsSafe (missTick s) :=
  safe.move (by constructor <;> simp [missTick]) (by simp [missTick])

theorem expirePacer_settingsSafe {s : State} (safe : SettingsSafe s) : SettingsSafe (expirePacer s) := by
  have next : SettingsSafe { s with seq.pacer := some s.seq.ctx.passInterval.toNat } :=
    safe.move (by constructor <;> simp) id
  unfold expirePacer
  dsimp only
  split
  · exact passStart_settingsSafe next
  iterate 3 exact missTick_settingsSafe next
  iterate 2 exact next

theorem updateZone_same (raw : Nat) (s : State) : SameRun s (updateZone raw s) := by
  unfold updateZone
  dsimp only
  split_ifs <;> constructor <;> simp

theorem completeStep_settingsSafe {s : State} (raw : Nat) (ovr : Bool) (safe : SettingsSafe s) :
    SettingsSafe (completeStep raw ovr s) :=
  offerSample_settingsSafe _ (safe.congr (updateZone_same raw s))

theorem resetEffect_settingsSafe {s : State} (safe : SettingsSafe s) : SettingsSafe (resetEffect s) := by
  have blocks {u : State} (safe : SettingsSafe u) : SettingsSafe (resetBlocks u) :=
    safe.move (by constructor <;> simp [resetBlocks]) id
  unfold resetEffect
  split_ifs
  · have cleared : SettingsSafe (discardHeld (abandonStep s)) :=
      safe.move (by constructor <;> simp) fun state => by simpa using state
    exact blocks (enterStopped_settingsSafe .reset cleared)
  · exact blocks safe

/-- The power-on values are those of the reset state, whatever the pins (R183). -/
theorem powerOnReset_settingsSafe (s : State) : SettingsSafe (powerOnReset s) := by
  obtain ⟨active, staged, stopped, level, interval, pairing, monitorInterval⟩ := settingsSafe_reset
  exact ⟨active, staged, stopped, level, interval, pairing, monitorInterval⟩

/-! ## The host's own settings -/

theorem setProfile_settingsSafe {s : State} {p : Profile} (i : Fin 16) (valid : p.valid) (safe : SettingsSafe s) :
    SettingsSafe (setProfile i p s) := by
  obtain ⟨active, staged, stopped, level, interval, pairing, monitorInterval⟩ := safe
  unfold setProfile
  split_ifs with run
  · refine ⟨active, fun j q stagedQ => ?_, fun state => ?_, level, interval, pairing, monitorInterval⟩
    · rw [get_putAt] at stagedQ
      split_ifs at stagedQ
      · cases stagedQ; exact valid
      · exact staged j q stagedQ
    · cases run.symm.trans (inactive_of_eq state)
  · refine ⟨fun j => ?_, staged, stopped, level, interval, pairing, monitorInterval⟩
    rw [get_putAt]
    split_ifs
    · exact valid
    · exact active j

/-- An accepted ARM brings a context and a level in their ranges, and leaves STOPPED (R20, R21). -/
theorem armRun_settingsSafe {s : State} {f : ArmFields} (valid : f.valid) (safe : SettingsSafe s) :
    SettingsSafe (armRun f s) := by
  obtain ⟨interval, low, high, pairing⟩ := valid
  have prepared : SettingsSafe (s.armedBy f) :=
    ⟨safe.active, safe.staged, nofun, ⟨low, high⟩, interval, pairing, safe.monitorInterval⟩
  obtain starts | same := armRun_cases f s
  · rw [starts]; exact startTrigger_settingsSafe prepared
  · exact prepared.congr same

/-! ## Every step -/

/-- Each action keeps the settings: the host's own by what their readers let through, the run's by STOPPED being entered
with a pass boundary alone. -/
theorem RunAction.settingsSafe {claim : Option Claim} {s t : State} (action : RunAction claim s t)
    (safe : SettingsSafe s) : SettingsSafe t := by
  cases action with
  | configured read =>
    obtain ⟨active, staged, stopped, level, interval, pairing, -⟩ := safe
    exact ⟨active, staged, stopped, level, interval, pairing, trigger?_interval read⟩
  | profileSet i read => exact setProfile_settingsSafe i (profile?_valid read) safe
  | armed _ read => exact armRun_settingsSafe (arm?_valid read) safe
  | started => exact startTrigger_settingsSafe safe
  | resumed => exact releasePause_settingsSafe safe
  | ended cause => exact enterStopped_settingsSafe cause safe
  | stopped cause => exact runStop_settingsSafe cause safe
  | released => exact releaseHeld_settingsSafe safe
  | settled => exact expireSettle_settingsSafe safe
  | stepTimed => exact expireStepTimer_settingsSafe safe
  | paced => exact expirePacer_settingsSafe safe
  | completed raw ovr => exact completeStep_settingsSafe raw ovr safe
  | reset => exact resetEffect_settingsSafe safe
  | poweredOn => exact powerOnReset_settingsSafe s

theorem arrive_same (s : State) : SameRun s (arrive s) := by
  unfold arrive
  split <;> constructor <;> simp

/-- A microsecond changes no setting; with RSTN low the part is at its power-on values (R183). -/
theorem tick_settingsSafe {s : State} (safe : SettingsSafe s) : SettingsSafe (tick s) := by
  have arrived : SettingsSafe (arrive s) := safe.congr (arrive_same s)
  have advanced : SettingsSafe (advance (arrive s)) := 
    arrived.move (by constructor <;> simp [advance, Sequencer.tick, TriggerUnit.tick]) id
  unfold tick
  dsimp only
  split_ifs
  · exact advanced.congr (by constructor <;> simp)
  · exact (powerOnReset_settingsSafe (arrive s)).congr (by constructor <;> simp)

/-- Settles O56: the actions of a run and a microsecond keep the settings. -/
theorem stepKeepsSettingsSafe : Obligations.StepKeepsSettingsSafe := by
  unfold Obligations.StepKeepsSettingsSafe
  intro s t safe steps
  obtain effect | rfl := step_runEffect steps
  · exact effect.keeps (fun _ _ same safe => safe.congr same) (fun _ _ _ action => action.settingsSafe) safe
  · exact tick_settingsSafe safe

end Sys2Proof.Machine
end

section
/-! PROOFS. Every step keeps what runs in each state of the sequencer (O59). -/

namespace Sys2Proof.Machine

/-- What runs in every state of a run from its first pass on: both watchers, and the pacer where passes have an interval
(R35, R48, R50). -/
structure RunTimed (s : State) : Prop where
  watchers : s.tu.lineWatching = true ∧ s.tu.cmpWatching = true
  pacer : s.seq.pacer.isSome = true ↔ s.seq.ctx.passInterval ≠ 0

theorem RunTimed.congr {s t : State} (timed : RunTimed s)
    (watching : t.tu.lineWatching = s.tu.lineWatching ∧ t.tu.cmpWatching = s.tu.cmpWatching)
    (pacer : t.seq.pacer = s.seq.pacer) (ctx : t.seq.ctx = s.seq.ctx) : RunTimed t where
  watchers := ⟨watching.1.trans timed.watchers.1, watching.2.trans timed.watchers.2⟩
  pacer := by rw [pacer, ctx]; exact timed.pacer

theorem TimersSafe.congr {s t : State} (safe : TimersSafe s) (same : SameRun s t) : TimersSafe t := by
  obtain ⟨watchers, pacer, waiting, settle, stepTimer, pauseMark⟩ := safe
  constructor <;> simpa only [same.seq, same.watching]

/-- Past ARMED the run's own timers run. -/
theorem TimersSafe.runTimed {s : State} (safe : TimersSafe s) (active : s.seq.state ≠ .stopped)
    (triggered : s.seq.state ≠ .armed) : RunTimed s where
  watchers := ⟨safe.watchers.1.mpr active, safe.watchers.2.mpr active⟩
  pacer := safe.pacer.trans ⟨fun ⟨_, _, paced⟩ => paced, fun paced => ⟨active, triggered, paced⟩⟩

/-- Outside settling no settle timer runs (R27). -/
theorem TimersSafe.settle_none {s : State} (safe : TimersSafe s) (state : s.seq.state ≠ .running .settling) :
    s.seq.settle = none := by
  by_contra runs
  exact state (safe.settle.mp (Option.isSome_iff_ne_none.mpr runs))

/-! ## The ways to leave a step -/

/-- In a pass or between passes: the run's own timers, and the sequencer's as the new state has them. -/
theorem RunTimed.timersSafe {s : State} (timed : RunTimed s) (active : s.seq.state ≠ .stopped)
    (triggered : s.seq.state ≠ .armed) (waiting : s.seq.state = .waiting → s.seq.ctx.passInterval ≠ 0)
    (settle : s.seq.settle.isSome = true ↔ s.seq.state = .running .settling)
    (stepTimer : s.seq.state = .paused ∨ s.seq.state = .waiting → s.seq.stepTimer = .idle)
    (pauseMark : s.seq.state = .paused → s.seq.pauseMark = false) : TimersSafe s where
  watchers := ⟨iff_of_true timed.watchers.1 active, iff_of_true timed.watchers.2 active⟩
  pacer := timed.pacer.trans ⟨fun paced => ⟨active, triggered, paced⟩, fun ⟨_, _, paced⟩ => paced⟩
  waiting := waiting
  settle := settle
  stepTimer state := stepTimer ((state.resolve_left active).resolve_left triggered)
  pauseMark state := pauseMark ((state.resolve_left active).resolve_left triggered)

/-- Entry to STOPPED stops everything (R42). -/
theorem enterStopped_timersSafe (cause : EndCause) (s : State) : TimersSafe (enterStopped cause s) := by
  constructor <;> simp [enterStopped_seq, enterStopped_tu]

theorem runStop_timersSafe (cause : EndCause) (s : State) : TimersSafe (runStop cause s) :=
  enterStopped_timersSafe cause _

/-- A step begins with its timers, or pauses with none and its mark clear (R24). -/
theorem stepBegin_timersSafe {s : State} (timed : RunTimed s) : TimersSafe (stepBegin s) := by
  have here : RunTimed (stepBegin s) := timed.congr (by simp) (by simp) (by simp)
  by_cases pauses : s.pauses = true
  · have mark : s.seq.pauseMark = false := by
      simp only [State.pauses, Bool.and_eq_true, Bool.not_eq_true'] at pauses
      exact pauses.2
    apply here.timersSafe <;> simp [stepBegin_seq, pauses, mark]
  · apply here.timersSafe <;> simp [stepBegin_seq, pauses]

theorem nextStep_timersSafe {s : State} (timed : RunTimed s) : TimersSafe (nextStep s) :=
  stepBegin_timersSafe (timed.congr (by simp) rfl rfl)

theorem releasePause_timersSafe {s : State} (timed : RunTimed s) : TimersSafe (releasePause s) :=
  stepBegin_timersSafe (timed.congr (by simp) rfl rfl)

theorem passStart_timersSafe {s : State} (timed : RunTimed s) : TimersSafe (passStart s) :=
  stepBegin_timersSafe (timed.congr (by simp) rfl rfl)

/-- The start trigger starts the pacer where passes have an interval (R22). -/
theorem startTrigger_timersSafe {s : State} (watching : s.tu.lineWatching = true ∧ s.tu.cmpWatching = true) :
    TimersSafe (startTrigger s) := by
  refine passStart_timersSafe ⟨by simpa using watching, ?_⟩
  by_cases unpaced : s.seq.ctx.passInterval = 0 <;> simp [unpaced]

theorem passContinue_timersSafe {s : State} (stopCause : Bool) (timed : RunTimed s) :
    TimersSafe (passContinue stopCause s) := by
  unfold passContinue
  split_ifs with limited complete unpaced
  · exact enterStopped_timersSafe .limit s
  · exact enterStopped_timersSafe .complete s
  · exact passStart_timersSafe timed
  · have waits : RunTimed { s with seq := { s.seq with state := .waiting, stepTimer := .idle, settle := none } } :=
      timed.congr (by simp) rfl rfl
    exact waits.timersSafe (by simp) (by simp) (fun _ => unpaced) (by simp) (by simp) (by simp)

theorem passEnd_timersSafe {s : State} (stopCause : Bool) (timed : RunTimed s) : TimersSafe (passEnd stopCause s) :=
  passContinue_timersSafe stopCause (timed.congr (by simp) (by simp) (by simp))

/-- The four ways on from an appended record (R29). -/
theorem afterAppend_timersSafe {s : State} (stopCause : Bool) (timed : RunTimed s) (settled : s.seq.settle = none) :
    TimersSafe (afterAppend stopCause s) := by
  unfold afterAppend
  split_ifs
  · exact runStop_timersSafe .limit s
  · exact passEnd_timersSafe stopCause timed
  · exact nextStep_timersSafe timed
  · have spaced : RunTimed { s with seq.state := .running .spacing } := timed.congr (by simp) rfl rfl
    apply spaced.timersSafe <;> simp [settled]

theorem appendSample_runTimed {s : State} (r : SampleRecord) (timed : RunTimed s) : RunTimed (appendSample r s) :=
  timed.congr (by simp) (by simp) (by simp)

theorem offerSample_timersSafe {s : State} (o : Offer) (timed : RunTimed s) (settled : s.seq.settle = none) :
    TimersSafe (offerSample o s) := by
  unfold offerSample
  split_ifs
  · have halts : RunTimed (raise .halted { s with rq.held := some o, seq.state := .halted }) :=
      timed.congr (by simp) (by simp) (by simp)
    apply halts.timersSafe <;> simp [settled]
  · exact afterAppend_timersSafe o.stopCause (appendSample_runTimed o.record timed) (by simpa using settled)

/-! ## The actions of a run -/

/-- A held record is of a run in HALTED, where no settle runs (R31, R143). -/
theorem releaseHeld_timersSafe {s : State} (safe : TimersSafe s)
    (halted : s.rq.held.isSome = true → s.seq.state = .halted) : TimersSafe (releaseHeld s) := by
  unfold releaseHeld
  split
  · rename_i o held
    split_ifs
    · have state : s.seq.state = .halted := halted (by simp [held])
      have timed : RunTimed (discardHeld s) :=
        (safe.runTimed (by simp [state]) (by simp [state])).congr (by simp) (by simp) (by simp)
      have settled : s.seq.settle = none := safe.settle_none (by simp [state])
      exact afterAppend_timersSafe o.stopCause (appendSample_runTimed o.record timed) (by simpa using settled)
    · exact safe
  · exact safe

theorem expireSettle_timersSafe {s : State} (safe : TimersSafe s) (settling : s.seq.state = .running .settling) :
    TimersSafe (expireSettle s) := by
  have held : RunTimed (holdReading s) :=
    (safe.runTimed (by simp [settling]) (by simp [settling])).congr (by simp [holdReading]) rfl rfl
  unfold expireSettle
  dsimp only
  cases s.entry.source with
  | analog =>
    have converts : RunTimed { claimConverter .step s.entry.channel s.entry.range s.entry.averaging (holdReading s) with
        seq.state := .running .converting } := held.congr (by simp) rfl rfl
    apply converts.timersSafe <;> simp [holdReading]
  | digital => exact offerSample_timersSafe _ held rfl

/-- Where the step timer runs the sequencer is in a step, so its expiry may be remembered (R30). -/
theorem expireStepTimer_timersSafe {s : State} (safe : TimersSafe s) (due : s.seq.stepTimer = .running 0) :
    TimersSafe (expireStepTimer s) := by
  have inStep : ¬ (s.seq.state = .stopped ∨ s.seq.state = .armed ∨ s.seq.state = .paused ∨ s.seq.state = .waiting) :=
    fun idle => by simpa [due] using safe.stepTimer idle
  unfold expireStepTimer
  split_ifs with spacing
  · exact nextStep_timersSafe (safe.runTimed (by simp [spacing]) (by simp [spacing]))
  · exact { safe with stepTimer := fun idle => absurd idle inStep }

theorem missTick_timersSafe {s : State} (safe : TimersSafe s) : TimersSafe (missTick s) := by
  obtain ⟨watchers, pacer, waiting, settle, stepTimer, pauseMark⟩ := safe
  constructor <;> simpa [missTick]

/-- The pacer starts again: it runs where it ran (R35). -/
theorem expirePacer_timersSafe {s : State} (safe : TimersSafe s) (due : s.seq.pacer = some 0) :
    TimersSafe (expirePacer s) := by
  have next : TimersSafe { s with seq.pacer := some s.seq.ctx.passInterval.toNat } :=
    { safe with pacer := by simpa [due] using safe.pacer }
  unfold expirePacer
  dsimp only
  split
  · rename_i waiting
    exact passStart_timersSafe (next.runTimed (by simp [waiting]) (by simp [waiting]))
  iterate 3 exact missTick_timersSafe next
  iterate 2 exact next

/-- A step completes from its conversions, where no settle runs (R28). -/
theorem completeStep_timersSafe {s : State} (raw : Nat) (ovr : Bool) (safe : TimersSafe s)
    (converting : s.seq.state = .running .converting) : TimersSafe (completeStep raw ovr s) := by
  have zoned : TimersSafe (updateZone raw s) := safe.congr (updateZone_same raw s)
  have state : (updateZone raw s).seq.state = .running .converting := by rw [(updateZone_same raw s).seq, converting]
  have timed : RunTimed (updateZone raw s) := zoned.runTimed (by simp [state]) (by simp [state])
  exact offerSample_timersSafe _ timed (zoned.settle_none (by simp [state]))

/-- An accepted ARM finds STOPPED with no timer running, and leaves it with the watchers on (R21). -/
theorem armRun_timersSafe {s : State} (f : ArmFields) (safe : TimersSafe s) (idle : s.seq.state = .stopped) :
    TimersSafe (armRun f s) := by
  obtain starts | same := armRun_cases f s
  · rw [starts]; exact startTrigger_timersSafe ⟨rfl, rfl⟩
  · have unpaced : s.seq.pacer.isSome = false :=
      Bool.eq_false_iff.mpr fun runs => (safe.pacer.mp runs).1 idle
    have unsettled : s.seq.settle = none := safe.settle_none (by simp [idle])
    have prepared : TimersSafe (s.armedBy f) := by
      constructor <;> simp [State.armedBy, unpaced, unsettled, safe.stepTimer (.inl idle)]
    exact prepared.congr same

theorem resetBlocks_timersSafe {s : State} (stopped : s.seq.state = .stopped) : TimersSafe (resetBlocks s) := by
  constructor <;> simp [resetBlocks, stopped]

theorem resetEffect_timersSafe (s : State) : TimersSafe (resetEffect s) := by
  unfold resetEffect
  split_ifs with active
  · exact resetBlocks_timersSafe (by simp [resetStop, enterStopped_seq])
  · exact resetBlocks_timersSafe (stopped_of_inactive active)

theorem powerOnReset_timersSafe (s : State) : TimersSafe (powerOnReset s) := by
  obtain ⟨watchers, pacer, waiting, settle, stepTimer, pauseMark⟩ := timersSafe_reset
  exact ⟨watchers, pacer, waiting, settle, stepTimer, pauseMark⟩

theorem setProfile_timersSafe {s : State} (i : Fin 16) (p : Profile) (safe : TimersSafe s) :
    TimersSafe (setProfile i p s) := by
  obtain ⟨watchers, pacer, waiting, settle, stepTimer, pauseMark⟩ := safe
  unfold setProfile
  split_ifs
  iterate 2 exact ⟨watchers, pacer, waiting, settle, stepTimer, pauseMark⟩

/-! ## Every step -/

/-- Each action keeps the timers, a held record being found in HALTED and a step's claim in its conversions (R72,
R143). -/
theorem RunAction.timersSafe {claim : Option Claim} {s t : State} (action : RunAction claim s t)
    (halted : s.rq.held.isSome = true → s.seq.state = .halted)
    (converting : ∀ c, claim = some c → c.claimant = .step → s.seq.state = .running .converting)
    (safe : TimersSafe s) : TimersSafe t := by
  cases action with
  | configured => exact { safe with watchers := safe.watchers }
  | profileSet i => exact setProfile_timersSafe i _ safe
  | armed idle => exact armRun_timersSafe _ safe idle
  | started armed =>
    have active : s.seq.state ≠ .stopped := by simp [armed]
    exact startTrigger_timersSafe ⟨safe.watchers.1.mpr active, safe.watchers.2.mpr active⟩
  | resumed paused => exact releasePause_timersSafe (safe.runTimed (by simp [paused]) (by simp [paused]))
  | ended cause => exact enterStopped_timersSafe cause s
  | stopped cause => exact runStop_timersSafe cause s
  | released => exact releaseHeld_timersSafe safe halted
  | settled settling => exact expireSettle_timersSafe safe settling
  | stepTimed due => exact expireStepTimer_timersSafe safe due
  | paced due => exact expirePacer_timersSafe safe due
  | completed raw ovr found step => exact completeStep_timersSafe raw ovr safe (converting _ found step)
  | reset => exact resetEffect_timersSafe s
  | poweredOn => exact powerOnReset_timersSafe s

/-- A microsecond counts the timers that run, and starts or stops none. -/
theorem advance_timersSafe {s : State} (safe : TimersSafe s) : TimersSafe (advance s) := by
  obtain ⟨watchers, pacer, waiting, settle, stepTimer, pauseMark⟩ := safe
  constructor <;> simp only [advance, Sequencer.tick, TriggerUnit.tick, Option.isSome_map]
  · exact watchers
  · exact pacer
  · exact waiting
  · exact settle
  · exact fun idle => by rw [stepTimer idle]; rfl
  · exact pauseMark

theorem tick_timersSafe {s : State} (safe : TimersSafe s) : TimersSafe (tick s) := by
  have arrived : TimersSafe (arrive s) := safe.congr (arrive_same s)
  unfold tick
  dsimp only
  split_ifs
  · exact (advance_timersSafe arrived).congr (by constructor <;> simp)
  · exact (powerOnReset_timersSafe (arrive s)).congr (by constructor <;> simp)

/-- Settles O59: the actions of a run and a microsecond keep the timers. -/
theorem stepKeepsTimersSafe : Obligations.StepKeepsTimersSafe := by
  unfold Obligations.StepKeepsTimersSafe
  intro s t run safe steps
  obtain effect | rfl := step_runEffect steps
  · refine effect.keeps (fun _ _ same safe => safe.congr same) (fun u v same action => ?_) safe
    refine action.timersSafe (fun held => ?_) fun c claim step => ?_
    · rw [same.seq]; exact run.held.mp (same.held ▸ held)
    · rw [same.seq]; exact run.stepClaim.mp ⟨c, claim, step⟩
  · exact tick_timersSafe safe

end Sys2Proof.Machine
end

section
/-! PROOFS. Steps, passes, expiries and what follows an append, written out (O37, O38, O43, O45). -/

namespace Sys2Proof.Machine

/-! ## Step begins and pass starts (R22 to R24) -/

theorem stepTimer_start (interval : BitVec 16) :
    StepTimer.start interval.toNat = if interval = 0 then .expired else .running interval.toNat := by
  unfold StepTimer.start
  have zero : interval.toNat = 0 ↔ interval = 0 := by bv_omega
  simp only [zero]

/-- A count that holds at a value, written with that value (R18, R36). -/
theorem holding_eq {w : Nat} (n top : BitVec w) : (if n = top then n else n + 1) = if n = top then top else n + 1 := by
  split_ifs with held
  · exact held
  · rfl

/-- A pause: no timer, and PAUSED (R24). -/
theorem stepBegin_of_pause {s : State} (pauses : s.pauses = true) :
    stepBegin s =
      { s with
        seq := { s.seq with state := .paused, stepTimer := .idle, settle := none }
        lp.flags := s.lp.flags ||| Flag.paused.bit } := if_pos pauses

/-- No pause: the pattern is written and the step's timers start (R24, R7). -/
theorem stepBegin_of_no_pause {s : State} (proceeds : s.pauses = false) :
    stepBegin s =
      { s with
        dl.latch := s.entry.pattern.getD s.dl.latch
        seq := { s.seq with
          state := .running .settling
          stepTimer := if s.seq.ctx.stepInterval = 0 then .expired else .running s.seq.ctx.stepInterval.toNat
          settle := some s.entry.settleTime } } := by
  have no : ¬ (s.entry.pause && !s.seq.pauseMark) = true := Bool.eq_false_iff.mp proceeds
  unfold stepBegin writePattern
  rw [if_neg no, stepTimer_start]
  cases s.entry.pattern <;> rfl

/-- Settles O43: the two ways of a step begin; a pass start and a start trigger are their definitions. -/
theorem stepsAndPassesBegin : Obligations.StepsAndPassesBegin := by
  unfold Obligations.StepsAndPassesBegin
  refine ⟨fun s => ⟨fun pause mark => ?_, fun proceeds => ?_⟩, fun s => ?_, fun s => rfl⟩
  · exact stepBegin_of_pause (s := s) (by simp [State.pauses, State.entry, pause, mark])
  · exact stepBegin_of_no_pause (s := s) (by simpa [State.pauses, State.entry, imp_iff_not_or] using proceeds)
  · have holds : holdingSucc s.seq.passesStarted =
        if s.seq.passesStarted = 65535 then 65535 else s.seq.passesStarted + 1 := holding_eq _ 65535
    rw [passStart, holds]
    rfl

/-! ## Expiries (R27, R30, R35, R36) -/

/-- Settles O37: the settle expiry by the entry's source. -/
theorem settleExpiryReadsThenClaimsOrOffers : Obligations.SettleExpiryReadsThenClaimsOrOffers := by
  unfold Obligations.SettleExpiryReadsThenClaimsOrOffers
  intro s settling expired e held
  have due : s.settleDue = true := by simp [State.settleDue, settling, expired]
  have acts : exec .settleExpiry s = .next (expireSettle s) := congrArg _ (if_pos due)
  rw [acts]
  unfold expireSettle
  refine ⟨fun analog => ?_, fun digital => ?_⟩
  · rw [show s.entry.source = .analog from analog]; rfl
  · rw [show s.entry.source = .digital from digital]; rfl

theorem expirePacer_inPass {s : State} (pass : s.seq.state.inPass = true) :
    expirePacer s = missTick { s with seq.pacer := some s.seq.ctx.passInterval.toNat } := by
  unfold expirePacer
  cases state : s.seq.state with
  | running | paused | halted => rfl
  | stopped | armed | waiting => rw [state] at pass; cases pass

/-- Settles O38: the expiry of the step timer by the phase, that of the pacer by the state. -/
theorem stepTimerAndPacerExpiries : Obligations.StepTimerAndPacerExpiries := by
  unfold Obligations.StepTimerAndPacerExpiries
  refine ⟨fun s expired => ?_, fun s expired => ?_⟩
  · have acts : exec .stepTimerExpiry s = .next (expireStepTimer s) := congrArg _ (if_pos (decide_eq_true expired))
    rw [acts]
    exact ⟨fun spacing => congrArg _ (if_pos spacing), fun other => congrArg _ (if_neg other)⟩
  · have acts : exec .pacerExpiry s = .next (expirePacer s) := congrArg _ (if_pos (decide_eq_true expired))
    rw [acts]
    refine ⟨fun waiting => ?_, fun pass => ?_⟩
    · unfold expirePacer; rw [waiting]
    · rw [expirePacer_inPass pass, ← holding_eq]
      rfl

/-! ## Entry to STOPPED and stops, in the vocabulary of the statements (R40, R42) -/

/-- The marker and its level test (R41, R142, R149). -/
theorem appendMarker_withRecord (status : MarkerStatus) (s : State) :
    appendMarker status s = s.withRecord (closingMarker status s) :=
  append_withRecord (closingMarker status s) s

theorem enterStopped_lp {cause : EndCause} (request : cause ≠ .reset) (s : State) :
    (enterStopped cause s).lp = { s.lp with flags := s.lp.flags ||| Flag.runEnd.bit } := by
  unfold enterStopped
  simp only [if_neg request, stopTriggers_frame, writeRest_frame, boundary_frame]
  rfl

/-- Entry to STOPPED by any cause but RESET, with no record held (R42). -/
theorem enterStopped_runEnded {cause : EndCause} {s : State} (request : cause ≠ .reset) (nothing : s.rq.held = none) :
    RunEnded cause s (enterStopped cause s) where
  sequencer := enterStopped_seq cause s
  link := enterStopped_lp request s
  boundary := by
    refine ⟨fun i => ?_, fun i => ?_⟩
    · rw [enterStopped_fm]; exact ⟨install_active _ i, install_staged _ i⟩
    · rw [enterStopped_tm]; exact flipPending_page _ i
  latch := ⟨enterStopped_latch cause s, by simp⟩
  watchers := enterStopped_tu cause s
  converter := by
    have mux : (enterStopped cause s).cv.mux = s.cv.mux := by simp
    dsimp only
    rw [← enterStopped_claim cause s, ← mux]
  queue := by
    have same : (enterStopped cause s).rq = s.rq := by simp
    rw [same, ← nothing]
  kept := by simp

theorem discardHeld_abandonStep (s : State) : discardHeld (abandonStep s) = s.withoutStep := by
  rw [abandonStep, abandonClaim_filter]; rfl

/-- A stop by any cause but RESET (R40). -/
theorem runStop_runStopped {cause : EndCause} (request : cause ≠ .reset) (s : State) :
    RunStopped cause s (runStop cause s) := by
  unfold RunStopped runStop
  rw [discardHeld_abandonStep]
  dsimp only
  rw [appendMarker_withRecord]
  split_ifs
  · exact enterStopped_runEnded request rfl
  · exact enterStopped_runEnded request rfl

/-! ## After an append (R29, R33, R34) -/

theorem lastStep_iff (s : State) : s.lastStep = true ↔ s.seq.stepIndex.val + 1 = s.ps.length := decide_eq_true_iff

/-- The state after the marker of a pass that ends, PASS_END and the pass boundary (R33). -/
def State.passEnded (s : State) : State := boundary (raise .passEnd (s.withRecord (closingMarker .complete s)))

theorem passEnd_eq (stopCause : Bool) (s : State) : passEnd stopCause s = passContinue stopCause s.passEnded := by
  rw [passEnd, appendMarker_withRecord]; rfl

theorem passEnded_eq (s : State) :
    s.passEnded =
      { s.withRecord (closingMarker .complete s) with
        lp.flags := (s.withRecord (closingMarker .complete s)).lp.flags ||| Flag.passEnd.bit
        fm := s.fm.install, tm := s.tm.flipPending } := rfl

theorem passEnded_boundary (s : State) : PassBoundary s s.passEnded :=
  ⟨fun i => ⟨install_active s.fm i, install_staged s.fm i⟩, fun i => flipPending_page s.tm i⟩

/-- A limit stop ends the run at the pass end (R34). -/
theorem passContinue_limited {stopCause : Bool} {s : State} (limited : (stopCause && s.seq.ctx.stopLimit) = true) :
    passContinue stopCause s = enterStopped .limit s := if_pos limited

section Continue

variable {stopCause : Bool} {s : State} (unlimited : ¬ (stopCause && s.seq.ctx.stopLimit) = true)

include unlimited

/-- The last pass of a bounded run completes it (R34). -/
theorem passContinue_complete (bounded : s.seq.ctx.passLimit ≠ 0)
    (reached : s.seq.passesStarted = s.seq.ctx.passLimit) :
    passContinue stopCause s = enterStopped .complete s :=
  (if_neg unlimited).trans (if_pos ⟨bounded, reached⟩)

variable (more : s.seq.ctx.passLimit = 0 ∨ s.seq.passesStarted ≠ s.seq.ctx.passLimit)

include more

/-- With passes to come the next follows at once, or at the pacer's expiry (R34, R35). -/
theorem passContinue_more :
    passContinue stopCause s =
      if s.seq.ctx.passInterval = 0 then passStart s
      else { s with seq := { s.seq with state := .waiting, stepTimer := .idle, settle := none } } := by
  have unreached : ¬ (s.seq.ctx.passLimit ≠ 0 ∧ s.seq.passesStarted = s.seq.ctx.passLimit) := by tauto
  exact (if_neg unlimited).trans (if_neg unreached)

end Continue

/-- Settles O45: the cases of R29 in order, with the pass end by TABLE 2.5, and entry to STOPPED. -/
theorem sequencerContinuesAfterAppend : Obligations.SequencerContinuesAfterAppend := by
  unfold Obligations.SequencerContinuesAfterAppend
  intro s stopCause last limited
  have limit_iff : (stopCause && s.seq.ctx.stopLimit) = true ↔ limited := by simp [limited]
  have cut_iff : (stopCause && s.seq.ctx.stopLimit && !s.lastStep) = true ↔ limited ∧ ¬ last := by
    rw [Bool.and_eq_true, limit_iff, Bool.not_eq_true', ← Bool.not_eq_true, lastStep_iff]
  have goesOn (notCut : ¬ (limited ∧ ¬ last)) (notLast : ¬ last) : afterAppend stopCause s =
      if s.seq.stepTimer = .expired then nextStep s else { s with seq.state := .running .spacing } := by
    rw [afterAppend, if_neg (mt cut_iff.mp notCut), if_neg (mt (lastStep_iff s).mp notLast)]
  refine ⟨fun limited notLast => ?_, fun last => ?_, fun notLimited notLast => ⟨fun expired => ?_, fun runs => ?_⟩,
    fun cause request nothing => enterStopped_runEnded request nothing⟩
  · rw [afterAppend, if_pos (cut_iff.mpr ⟨limited, notLast⟩)]
    exact runStop_runStopped (by decide) s
  · have ends : afterAppend stopCause s = passEnd stopCause s := by
      rw [afterAppend, if_neg (mt cut_iff.mp fun cut => cut.2 last), if_pos ((lastStep_iff s).mpr last)]
    refine ⟨s.fm.install, s.tm.flipPending, ?_⟩
    rw [ends, passEnd_eq]
    dsimp only
    rw [← passEnded_eq]
    obtain ⟨subst, zones, heldByte, heldStamp⟩ := install_frame s.fm
    refine ⟨passEnded_boundary s, zones, subst, heldByte, heldStamp, fun limited => ?_,
      fun notLimited bounded reached => ?_, fun notLimited more => ?_⟩
    · exact passContinue_limited (limit_iff.mpr limited)
    · exact passContinue_complete (mt limit_iff.mp notLimited) bounded reached
    · rw [passContinue_more (s := s.passEnded) (mt limit_iff.mp notLimited) more]
      exact ⟨fun unpaced => if_pos unpaced, fun paced => if_neg paced⟩
  · rw [goesOn (fun cut => notLimited cut.1) notLast, if_pos expired]; rfl
  · rw [goesOn (fun cut => notLimited cut.1) notLast, if_neg runs]

end Sys2Proof.Machine
end

section
/-! PROOFS. The requests of the sequencer: ARM, STOP, RESUME (O19, O20, O21). -/

namespace Sys2Proof.Machine

/-! ## The frame in the request buffer is no part of a run -/

/-- A step begins alike whatever frames wait. -/
theorem stepBegin_awaiting (frames : List Frame) (s : State) :
    stepBegin (s.awaiting frames) = (stepBegin s).awaiting frames := by
  cases pauses : s.pauses with
  | true =>
    have same : (s.awaiting frames).pauses = true := pauses
    rw [stepBegin_of_pause pauses, stepBegin_of_pause same]; rfl
  | false =>
    have same : (s.awaiting frames).pauses = false := pauses
    rw [stepBegin_of_no_pause pauses, stepBegin_of_no_pause same]; rfl

theorem passStart_awaiting (frames : List Frame) (s : State) :
    passStart (s.awaiting frames) = (passStart s).awaiting frames := by
  rw [passStart, passStart, ← stepBegin_awaiting]; rfl

theorem startTrigger_awaiting (frames : List Frame) (s : State) :
    startTrigger (s.awaiting frames) = (startTrigger s).awaiting frames := by
  rw [startTrigger, startTrigger, ← passStart_awaiting]; rfl

/-- A run that ends ends alike whatever frames wait. -/
theorem RunEnded.of_awaiting {cause : EndCause} {frames : List Frame} {s t : State}
    (ended : RunEnded cause (s.awaiting frames) t) : RunEnded cause s (t.awaiting s.lp.requests) where
  sequencer := ended.sequencer
  link := by
    show { t.lp with requests := s.lp.requests } = _
    rw [ended.link]; rfl
  boundary := ended.boundary
  latch := ended.latch
  watchers := ended.watchers
  converter := ended.converter
  queue := ended.queue
  kept := ended.kept

theorem RunStopped.of_awaiting {cause : EndCause} {frames : List Frame} {s t : State}
    (stopped : RunStopped cause (s.awaiting frames) t) : RunStopped cause s (t.awaiting s.lp.requests) := by
  unfold RunStopped at stopped ⊢
  by_cases closed : s.seq.state ≠ .waiting ∧ 1 ≤ s.seq.sampleCount
  · have same : (s.awaiting frames).seq.state ≠ .waiting ∧ 1 ≤ (s.awaiting frames).seq.sampleCount := closed
    rw [if_pos same] at stopped
    rw [if_pos closed]
    exact RunEnded.of_awaiting (s := s.withoutStep.withRecord (closingMarker .aborted s)) stopped
  · have same : ¬ ((s.awaiting frames).seq.state ≠ .waiting ∧ 1 ≤ (s.awaiting frames).seq.sampleCount) := closed
    rw [if_neg same] at stopped
    rw [if_neg closed]
    exact RunEnded.of_awaiting (s := s.withoutStep) stopped

/-- An ACK is the same reply whatever frames the state had, where its own are the rest of the buffer. -/
theorem ack_awaiting {rest : List Frame} {t : State} (requests : t.lp.requests = rest) (kind tag : Byte)
    (body : List Byte) (frames : List Frame) :
    ack kind tag body t = answered rest (kind + 0x80) tag body (t.awaiting frames) := by
  rw [ack_answered, requests]; rfl

/-! ## ARM (R20, R21) -/

theorem armRequest_busy {s : State} (tag : Byte) (body : List Byte) (active : s.active = true) :
    armRequest tag body s = refuse kindArm tag .busy s := if_pos active

section Arm

variable {s : State} (tag : Byte) {body : List Byte} (idle : s.active = false)

include idle

theorem armRequest_noProgram (empty : s.ps.length = 0) : armRequest tag body s = refuse kindArm tag .noProgram s := by
  simp [armRequest, idle, empty]

theorem armRequest_badField (program : s.ps.length ≠ 0) (bad : arm? body = none) :
    armRequest tag body s = refuse kindArm tag .badField s := by
  simp [armRequest, idle, program, bad]

theorem armRequest_arms (program : s.ps.length ≠ 0) {f : ArmFields} (read : arm? body = some f) :
    armRequest tag body s = ack kindArm tag [(armRun f s).seq.state.byte] (armRun f s) := by
  simp [armRequest, idle, program, read]

end Arm

/-- The state a start trigger leads to: PAUSED where the first entry pauses, else RUNNING (R22 to R24). -/
theorem startTrigger_state (s : State) :
    (startTrigger s).seq.state = if (s.ps.slots.get 0).pause then .paused else .running .settling := by
  rw [startTrigger, passStart, stepBegin_state]
  simp [State.pauses, State.entry]

/-- Settles O19: ARM by the checks of TABLE 2.4, then by the start source. -/
theorem armPreparesTheRun : Obligations.ArmPreparesTheRun := by
  unfold Obligations.ArmPreparesTheRun
  intro s tag body rest ready length
  have meaning : exec (.arm tag body) s = .next (armRequest tag body (s.awaiting rest)) :=
    owner_serves ready rfl (decide_eq_true length)
  rw [meaning]
  refine ⟨fun active => ?_, fun stopped empty => ?_, fun stopped program bad => ?_, fun f stopped program read => ?_⟩
  · exact congrArg _ (armRequest_busy (s := s.awaiting rest) tag body (active_of_ne active))
  · exact congrArg _ (armRequest_noProgram (s := s.awaiting rest) tag (inactive_of_eq stopped) empty)
  · exact congrArg _ (armRequest_badField (s := s.awaiting rest) tag (inactive_of_eq stopped) program bad)
  rw [armRequest_arms (s := s.awaiting rest) tag (inactive_of_eq stopped) program read]
  refine ⟨fun waits => ?_, fun level => ?_, fun now => ?_⟩
  · rw [armRun_waits waits]; rfl
  · rw [armRun_level level]; rfl
  · have arms : armRun f (s.awaiting rest) = (startTrigger (s.armedBy f)).awaiting rest :=
      (armRun_now now _).trans (startTrigger_awaiting rest (s.armedBy f))
    have first : (s.armedBy f).ps.slots = s.ps.slots := rfl
    have state : ((startTrigger (s.armedBy f)).awaiting rest).seq.state = (startTrigger (s.armedBy f)).seq.state := rfl
    rw [arms, ack_answered, state, startTrigger_state, first]
    cases (s.ps.slots.get 0).pause <;> rfl

/-! ## STOP (R37) -/

theorem stopRun_stopped {s : State} (stopped : s.seq.state = .stopped) : stopRun s = s := by
  unfold stopRun; rw [stopped]

theorem stopRun_armed {s : State} (armed : s.seq.state = .armed) : stopRun s = enterStopped .request s := by
  unfold stopRun; rw [armed]

theorem stopRun_active {s : State} (active : s.seq.state ≠ .stopped) (triggered : s.seq.state ≠ .armed) :
    stopRun s = runStop .request s := by
  obtain ⟨stopped, -⟩ | ⟨armed, -⟩ | ⟨-, -, stops⟩ := stopRun_cases s
  · exact absurd stopped active
  · exact absurd armed triggered
  · exact stops

/-- The ACK of a STOP that ends a run carries the cause REQUEST (R37). -/
theorem stopRequest_ends {frames : List Frame} {s t : State} (tag : Byte) (ends : stopRun s = t)
    (cause : t.seq.endCause = .request) (requests : t.lp.requests = s.lp.requests) :
    stopRequest tag s = answered s.lp.requests 0xA1 tag [2] (t.awaiting frames) := by
  subst ends
  have reply : stopRequest tag s = ack kindStop tag [(stopRun s).seq.endCause.byte] (stopRun s) := rfl
  rw [reply, cause]
  exact ack_awaiting requests _ _ _ _

/-- Settles O20: STOP by the sequencer's state. -/
theorem stopEndsTheRun : Obligations.StopEndsTheRun := by
  unfold Obligations.StopEndsTheRun
  intro s tag rest ready
  have meaning : exec (.stop tag []) s = .next (stopRequest tag (s.awaiting rest)) := owner_serves ready rfl rfl
  rw [meaning]
  refine ⟨fun stopped => ?_, fun armed nothing => ?_, fun active triggered => ?_⟩
  · have same : stopRun (s.awaiting rest) = s.awaiting rest := stopRun_stopped stopped
    exact congrArg (fun t => Host.Outcome.next (ack kindStop tag [t.seq.endCause.byte] t)) same
  · have ends : stopRun (s.awaiting rest) = enterStopped .request (s.awaiting rest) := stopRun_armed armed
    have cause : (enterStopped .request (s.awaiting rest)).seq.endCause = .request := by rw [enterStopped_seq]
    have ended := enterStopped_runEnded (cause := .request) (s := s.awaiting rest) (by decide) nothing
    exact ⟨_, congrArg _ (stopRequest_ends tag ends cause (by simp)), ended.of_awaiting⟩
  · have ends : stopRun (s.awaiting rest) = runStop .request (s.awaiting rest) := stopRun_active active triggered
    have cause : (runStop .request (s.awaiting rest)).seq.endCause = .request := by rw [runStop, enterStopped_seq]
    have stopped := runStop_runStopped (cause := .request) (by decide) (s.awaiting rest)
    exact ⟨_, congrArg _ (stopRequest_ends tag ends cause (by simp)), stopped.of_awaiting⟩

/-! ## RESUME (R25, R26) -/

theorem resumeRequest_notPaused {s : State} (tag : Byte) (other : s.seq.state ≠ .paused) :
    resumeRequest tag s = refuse kindResume tag .notPaused s := if_pos other

theorem resumeRequest_badField {s : State} (tag : Byte) (paused : s.seq.state = .paused)
    (line : s.seq.ctx.release = .line) : resumeRequest tag s = refuse kindResume tag .badField s :=
  (if_neg (not_not.mpr paused)).trans (if_pos line)

/-- The step that paused proceeds: its mark is set, so it does not pause again (R26). -/
theorem resumeRequest_releases {s : State} (tag : Byte) (paused : s.seq.state = .paused)
    (request : s.seq.ctx.release = .request) :
    resumeRequest tag s =
      ack kindResume tag [2, BitVec.ofNat 8 s.seq.stepIndex.val]
        { s with
          dl.latch := s.entry.pattern.getD s.dl.latch
          seq := { s.seq with
            state := .running .settling, pauseMark := true
            stepTimer := if s.seq.ctx.stepInterval = 0 then .expired else .running s.seq.ctx.stepInterval.toNat
            settle := some s.entry.settleTime } } := by
  have marked : ({ s with seq.pauseMark := true } : State).pauses = false := by simp [State.pauses]
  have proceeds := stepBegin_of_no_pause marked
  unfold resumeRequest
  rw [if_neg (not_not.mpr paused), if_neg (by rw [request]; decide), releasePause, proceeds]
  rfl

/-- Settles O21: RESUME by the state and the pause release. -/
theorem resumeReleasesThePause : Obligations.ResumeReleasesThePause := by
  unfold Obligations.ResumeReleasesThePause
  intro s tag rest ready
  have meaning : exec (.resume tag []) s = .next (resumeRequest tag (s.awaiting rest)) := owner_serves ready rfl rfl
  rw [meaning]
  refine ⟨fun other => ?_, fun paused line => ?_, fun paused request => ?_⟩
  · exact congrArg _ (resumeRequest_notPaused (s := s.awaiting rest) tag other)
  · exact congrArg _ (resumeRequest_badField (s := s.awaiting rest) tag paused line)
  · exact congrArg _ (resumeRequest_releases (s := s.awaiting rest) tag paused request)

end Sys2Proof.Machine
end

section
/-! PROOFS. What an event that stands for no byte leaves of the receiver and of the request buffer. -/

namespace Sys2Proof.Machine

/-- The receiver and the request buffer stand. -/
def SameReceiver (s t : State) : Prop := t.lp.requests = s.lp.requests ∧ t.lp.rx = s.lp.rx

/-- The receiver and the request buffer stand or are given up: no byte has been taken. -/
def TakesNoByte (s t : State) : Prop :=
  (t.lp.requests = s.lp.requests ∨ t.lp.requests = []) ∧ (t.lp.rx = s.lp.rx ∨ t.lp.rx = .hunt)

theorem SameReceiver.takesNoByte {s t : State} (same : SameReceiver s t) : TakesNoByte s t :=
  ⟨.inl same.1, .inl same.2⟩

theorem sameReceiver_refl (s : State) : SameReceiver s s := ⟨rfl, rfl⟩

/-! ## The transmitter and the resets -/

theorem resetEffect_sameReceiver (s : State) : SameReceiver s (resetEffect s) := by
  unfold resetEffect
  split_ifs <;> simp [SameReceiver, resetBlocks, resetStop]

theorem endReply_sameReceiver (r : Transmission) (s : State) : SameReceiver s (endReply r s) := by
  unfold endReply
  dsimp only
  split_ifs
  · exact resetEffect_sameReceiver { s with lp.reply := none }
  · exact ⟨rfl, rfl⟩

theorem cutReply_sameReceiver (r : Transmission) (s : State) : SameReceiver s (cutReply r s) := by
  simpa [SameReceiver, cutReply] using endReply_sameReceiver r s

theorem breakReply_sameReceiver (s : State) : SameReceiver s (breakReply s) := by
  unfold breakReply
  split
  · simp [SameReceiver]
  · split_ifs
    · exact cutReply_sameReceiver _ s
    · exact ⟨rfl, rfl⟩

/-! ## The events of a run, of the Converter and of a map check -/

theorem expireSettle_sameReceiver (s : State) : SameReceiver s (expireSettle s) := by
  unfold expireSettle
  dsimp only
  cases s.entry.source <;> simp [SameReceiver, holdReading]

theorem expireStepTimer_sameReceiver (s : State) : SameReceiver s (expireStepTimer s) := by
  unfold expireStepTimer
  split_ifs <;> simp [SameReceiver]

theorem expirePacer_sameReceiver (s : State) : SameReceiver s (expirePacer s) := by
  unfold expirePacer
  dsimp only
  split <;> simp [SameReceiver, missTick]

theorem completeStep_sameReceiver (raw : Nat) (ovr : Bool) (s : State) : SameReceiver s (completeStep raw ovr s) := by
  unfold completeStep updateZone
  dsimp only
  split_ifs <;> simp [SameReceiver]

theorem completeMonitor_sameReceiver (raw : Nat) (s : State) : SameReceiver s (completeMonitor raw s) := by
  unfold completeMonitor
  dsimp only
  split_ifs <;> simp [SameReceiver]

theorem completeSample_sameReceiver (raw : Nat) (ovr : Bool) (s : State) :
    SameReceiver s (completeSample raw ovr s) := by
  unfold completeSample
  split <;> simp [SameReceiver]

theorem endConversion_sameReceiver (c : Claim) (s : State) : SameReceiver s (endConversion c s) := by
  unfold endConversion completeClaim
  dsimp only
  split_ifs
  · exact ⟨rfl, rfl⟩
  · split
    · exact completeStep_sameReceiver _ _ { s with cv.claim := none }
    · exact completeMonitor_sameReceiver _ { s with cv.claim := none }
    · exact completeSample_sameReceiver _ _ { s with cv.claim := none }

/-! ## Every event -/

/-- An event that acts where it is due and else changes nothing (log 1). -/
theorem sameReceiver_ite {s t : State} {due : Prop} {_ : Decidable due} (acts : SameReceiver s t) :
    SameReceiver s (if due then t else s) := by
  split_ifs
  · exact acts
  · exact sameReceiver_refl s

theorem replyByteSent_sameReceiver (s : State) : ∃ t, exec .replyByteSent s = .next t ∧ SameReceiver s t := by
  refine ⟨_, rfl, ?_⟩
  split
  · split_ifs
    · exact cutReply_sameReceiver _ s
    iterate 3 exact ⟨rfl, rfl⟩
  · exact sameReceiver_refl s

theorem replySent_sameReceiver (s : State) : ∃ t, exec .replySent s = .next t ∧ SameReceiver s t := by
  refine ⟨_, rfl, ?_⟩
  split
  · split_ifs
    · exact cutReply_sameReceiver _ s
    · exact endReply_sameReceiver _ s
    · exact sameReceiver_refl s
  · exact sameReceiver_refl s

theorem holdnRelease_sameReceiver (s : State) : ∃ t, exec .holdnRelease s = .next t ∧ SameReceiver s t := by
  refine ⟨_, rfl, ?_⟩
  split
  · exact sameReceiver_ite ⟨rfl, rfl⟩
  · exact sameReceiver_refl s

theorem conversionEnd_sameReceiver (s : State) : ∃ t, exec .conversionEnd s = .next t ∧ SameReceiver s t := by
  refine ⟨_, rfl, ?_⟩
  split
  · exact sameReceiver_ite (endConversion_sameReceiver _ s)
  · exact sameReceiver_refl s

theorem sampleSettleExpiry_sameReceiver (s : State) :
    ∃ t, exec .sampleSettleExpiry s = .next t ∧ SameReceiver s t := by
  refine ⟨_, rfl, ?_⟩
  split <;> exact ⟨rfl, rfl⟩

theorem unitBAbsorb_sameReceiver (s : State) : ∃ t, exec .unitBAbsorb s = .next t ∧ SameReceiver s t := by
  refine ⟨_, rfl, ?_⟩
  split
  · exact sameReceiver_ite ⟨rfl, rfl⟩
  · exact sameReceiver_refl s

theorem mapCommitCompletion_sameReceiver (s : State) :
    ∃ t, exec .mapCommitCompletion s = .next t ∧ SameReceiver s t := by
  refine ⟨_, rfl, ?_⟩
  split
  · exact sameReceiver_ite (by simp [SameReceiver, completeCheck, putPage])
  · exact sameReceiver_refl s

theorem gapTimeout_takesNoByte (s : State) : TakesNoByte s (judgeGap s) := by
  unfold judgeGap
  split_ifs
  · exact ⟨.inl (by simp), .inr rfl⟩
  · exact (sameReceiver_refl s).takesNoByte

theorem linkBreak_takesNoByte (s : State) : ∃ t, exec .linkBreak s = .next t ∧ TakesNoByte s t := by
  refine ⟨_, rfl, ?_⟩
  split_ifs
  · obtain ⟨requests, rx⟩ := breakReply_sameReceiver (breakPort s)
    exact ⟨.inr requests, .inr rx⟩
  · exact (sameReceiver_refl s).takesNoByte

theorem breakEnd_takesNoByte (s : State) : ∃ t, exec .breakEnd s = .next t ∧ TakesNoByte s t := by
  refine ⟨_, rfl, ?_⟩
  split_ifs
  · exact ⟨.inl rfl, .inr rfl⟩
  · exact (sameReceiver_refl s).takesNoByte

/-- A command that stands for no byte on LRX brings the receiver none. -/
theorem exec_takesNoByte {c : Instr} (silent : lineBytes c = 0) (s : State) :
    ∃ t, exec c s = .next t ∧ TakesNoByte s t := by
  have still {t : State} (meaning : exec c s = .next t) (same : SameReceiver s t) :
      ∃ t, exec c s = .next t ∧ TakesNoByte s t := ⟨t, meaning, same.takesNoByte⟩
  have stills (answer : ∃ t, exec c s = .next t ∧ SameReceiver s t) :
      ∃ t, exec c s = .next t ∧ TakesNoByte s t := answer.imp fun _ => .imp_right SameReceiver.takesNoByte
  cases c with
  | gapTimeout => exact ⟨_, rfl, gapTimeout_takesNoByte s⟩
  | linkBreak => exact linkBreak_takesNoByte s
  | breakEnd => exact breakEnd_takesNoByte s
  | powerOnReset => exact ⟨_, rfl, .inr rfl, .inr rfl⟩
  | replySent => exact stills (replySent_sameReceiver s)
  | holdnRelease => exact stills (holdnRelease_sameReceiver s)
  | settleExpiry => exact still rfl (sameReceiver_ite (expireSettle_sameReceiver s))
  | stepTimerExpiry => exact still rfl (sameReceiver_ite (expireStepTimer_sameReceiver s))
  | pacerExpiry => exact still rfl (sameReceiver_ite (expirePacer_sameReceiver s))
  | conversionEnd => exact stills (conversionEnd_sameReceiver s)
  | monitorIntervalExpiry => exact still rfl (sameReceiver_ite (by simp [SameReceiver]))
  | sampleSettleExpiry => exact stills (sampleSettleExpiry_sameReceiver s)
  | unitBAbsorb => exact stills (unitBAbsorb_sameReceiver s)
  | mapCommitCompletion => exact stills (mapCommitCompletion_sameReceiver s)
  | trigEdge => exact still rfl (sameReceiver_ite (by simp [SameReceiver]))
  | patternEvent => exact still rfl (sameReceiver_ite (by simp [SameReceiver]))
  | replyByteSent => exact stills (replyByteSent_sameReceiver s)
  | comparatorSample => exact still rfl (sameReceiver_ite (by simp [SameReceiver]))
  | lineWatcherSample => exact still rfl (sameReceiver_ite (by simp [SameReceiver]))
  | _ => exact absurd silent (Nat.succ_ne_zero _)

end Sys2Proof.Machine
end

section
/-! PROOFS. One microsecond of the timebase (O5). -/

namespace Sys2Proof.Machine

/-! ## Every block's microsecond, in the vocabulary of the statements -/

theorem baud_eq_lineSpeed (speed : Speed) : speed.baud = lineSpeed speed := by cases speed <;> rfl

theorem comparatorSamples_eq (tu : TriggerUnit) (q : Sequencer) :
    comparatorSamples tu q = decide (tu.cfg.sampling = .timebase ∨ q.state = .armed ∨ q.pacer = some 1) := by
  simp only [comparatorSamples, Bool.decide_or, Bool.or_assoc]

/-- A start bit stops the gap timer where the gap is not above 5000 microseconds (R159). -/
theorem gapTick_eq (lrx : Bool) (gap : Option Nat) :
    gapTick lrx gap = if lrx = false ∧ gap.getD 0 < 5000 then none else gap.map (· + 1) := by
  cases gap with
  | none => simp [gapTick]
  | some n => rfl

theorem Transmission.tick_eq (speed : Speed) (r : Transmission) :
    r.tick speed = if r.waiting then r else { r with clock := r.clock + lineSpeed speed } := by
  rw [Transmission.tick, baud_eq_lineSpeed]

/-- The step timer's microsecond: counted where it runs, and only there (R24). -/
theorem StepTimer.tick_spec (timer : StepTimer) :
    (∀ left, timer = .running left → timer.tick = .running (left - 1)) ∧
    ((∀ left, timer ≠ .running left) → timer.tick = timer) := by
  cases timer with
  | running left => exact ⟨fun _ same => by cases same; rfl, fun never => absurd rfl (never left)⟩
  | idle | expired => exact ⟨nofun, fun _ => rfl⟩

/-- The service's microsecond: counted where a SAMPLE settles, and only there (R75). -/
theorem Service.tick_spec (service : Service) :
    (∀ tag f left, service = .sampleSettling tag f left → service.tick = .sampleSettling tag f (left - 1)) ∧
    ((∀ tag f left, service ≠ .sampleSettling tag f left) → service.tick = service) := by
  cases service with
  | sampleSettling tag f left =>
    exact ⟨fun _ _ _ same => by cases same; rfl, fun never => absurd rfl (never tag f left)⟩
  | idle | commit | sampleConverting => exact ⟨nofun, fun _ => rfl⟩

theorem LinkPort.tick_eq (lp : LinkPort) (lrx : Bool) :
    lp.tick lrx =
      { lp with
        gap := if lrx = false ∧ lp.gap.getD 0 < 5000 then none else lp.gap.map (· + 1)
        lowFor := if lrx then 0 else lp.lowFor + 1
        sinceReset := min (lp.sinceReset + lineSpeed lp.speed) 2450000000
        service := lp.service.tick
        reply := lp.reply.map fun r =>
          if r.waiting then r else { r with clock := r.clock + lineSpeed lp.speed } } := by
  have reply : (fun r : Transmission => r.tick lp.speed) = fun r =>
      if r.waiting then r else { r with clock := r.clock + lineSpeed lp.speed } :=
    funext (Transmission.tick_eq lp.speed)
  rw [LinkPort.tick, gapTick_eq, baud_eq_lineSpeed, reply]
  rfl

/-! ## The moments of the outside -/

/-- With RSTN high the new pin levels land, the blocks count, and the commands that can have arrived join the queue. -/
theorem tick_running {s : State} (up : s.pins.rstn = true) (stays : (arrive s).pins.rstn = true) :
    tick s =
      { advance (arrive s) with
        pending := (advance (arrive s)).pending ++ landing (advance (arrive s)).lp.sinceReset s.coming } := by
  have running : (s.pins.rstn && (arrive s).pins.rstn) = true := by simp [up, stays]
  unfold tick
  dsimp only
  rw [if_pos running]

theorem arrive_nil {s : State} (nothing : s.coming = []) : arrive s = s := by
  unfold arrive; rw [nothing]

theorem arrive_cons {s : State} {m : Moment} {rest : List Moment} (coming : s.coming = m :: rest) :
    arrive s = { s with pins := m.pins, coming := rest } := by
  unfold arrive; rw [coming]

/-- With nothing coming the microsecond is the blocks' alone. -/
theorem tick_quiet {s : State} (up : s.pins.rstn = true) (nothing : s.coming = []) : tick s = advance s := by
  have arrived := arrive_nil nothing
  rw [tick_running up (by rwa [arrived]), arrived, nothing, landing, List.append_nil]

/-- A moment's commands join the queue after the microsecond it lands in (log 5). -/
theorem tick_moment {s : State} {m : Moment} {rest : List Moment} (coming : s.coming = m :: rest)
    (up : s.pins.rstn = true) (stays : m.pins.rstn = true) :
    tick s =
      let passed := tick { s with pins := m.pins, coming := [] }
      { passed with coming := rest, pending := s.pending ++ landing passed.lp.sinceReset [m] } := by
  have arrived := arrive_cons coming
  rw [tick_quiet (s := { s with pins := m.pins, coming := [] }) stays rfl, tick_running up (by rwa [arrived]),
    arrived, coming]
  rfl

/-- With RSTN low, or as it rises, a microsecond leaves the power-on values (R183; log 12). -/
theorem tick_reset {s : State} (low : s.pins.rstn = false ∨ (arrive s).pins.rstn = false) :
    tick s =
      { powerOnReset (arrive s) with
        pending := (powerOnReset (arrive s)).pending ++ landing 0 s.coming } := by
  have down : ¬ (s.pins.rstn && (arrive s).pins.rstn) = true := by
    obtain low | low := low <;> simp [low]
  unfold tick
  dsimp only
  rw [if_neg down]
  rfl

theorem atPowerOn_powerOn (pins : Pins) (coming : List Moment) (pending : List Instr) :
    AtPowerOn (.powerOn pins coming pending) where
  program := ⟨rfl, get_replicate _⟩
  sequencer := ⟨rfl, rfl, rfl, rfl, rfl, rfl, rfl, rfl, rfl, rfl, rfl⟩
  context := rfl
  triggers := ⟨rfl, rfl, rfl, rfl, rfl, rfl, rfl, rfl⟩
  outputs := ⟨rfl, rfl⟩
  converter := ⟨rfl, rfl⟩
  profiles i := ⟨get_replicate _ i, get_replicate _ i, get_replicate _ i⟩
  zones := get_replicate _
  pages i := by
    have page : (State.powerOn pins coming pending).tm.pages.get i = Page.erased := get_replicate _ i
    rw [page]
    exact ⟨rfl, rfl, rfl, rfl, rfl, fun j => ⟨get_replicate _ j, get_replicate _ j⟩⟩
  checks := ⟨rfl, rfl, rfl, rfl, rfl, rfl⟩
  queue := ⟨rfl, rfl, rfl, rfl, rfl⟩
  link := ⟨rfl, rfl, rfl, rfl, rfl, rfl, rfl, rfl, rfl, rfl, rfl, rfl⟩
  flags f := by
    show (1 : BitVec 14).getLsbD f.position = decide (f = .powerOn)
    cases f <;> decide

theorem tick_reset_atPowerOn {s : State} (low : s.pins.rstn = false ∨ (arrive s).pins.rstn = false) :
    AtPowerOn (tick s) := by
  rw [tick_reset low]
  exact atPowerOn_powerOn _ _ _

/-! ## The commands of a moment -/

/-- A command of a moment joins the queue just where its bytes began after the reset (R183). -/
theorem mem_landing {m : Moment} {since : Nat} {c : Instr} :
    c ∈ landing since [m] ↔ c ∈ m.arrivals ∧
      (lineBytes c = 0 ∨ .powerOnReset ∉ m.commands ∧ lineBytes c * 10000000 ≤ since) := by
  simp only [landing, List.mem_filter, Moment.admits, Bool.or_eq_true, Bool.and_eq_true, decide_eq_true_eq]
  rfl

theorem lineBytes_requestCommand (kind tag : Byte) (body : List Byte) :
    lineBytes (requestCommand kind tag body) = body.length + 5 := by
  simp only [lineBytes, requestCommand_frame]
  rfl

/-- The levels of a byte on the line spell the byte (R156). -/
theorem lineCommand_byteLevels (b : Byte) : lineCommand (byteLevels b) = some (.byteReceived b) := by
  revert b; decide

theorem arrivals_nothing {m : Moment} (quiet : m.line = []) : m.arrivals = m.commands := by
  rw [Moment.arrivals, quiet]; rfl

theorem arrivals_byte {m : Moment} {b : Byte} (levels : m.line = byteLevels b) :
    m.arrivals = .byteReceived b :: m.commands := by
  rw [Moment.arrivals, levels, lineCommand_byteLevels]; rfl

/-- While RSTN is low no byte is received and RDY is negated (R183). -/
theorem deaf_of_reset {s : State} (low : s.pins.rstn = false) (b : Byte) :
    exec (.byteReceived b) s = .next s ∧ rdy s = false := by
  have deaf : ¬ s.receiving = true := by simp [State.receiving, State.listening, low]
  exact ⟨congrArg _ (if_neg deaf), by simp [rdy, low]⟩

/-! ## The statement -/

/-- One microsecond with RSTN high and nothing arriving, block by block. -/
theorem advance_eq (s : State) :
    advance s =
      { s with
        seq := { s.seq with
          passClock := if s.seq.state.inPass then s.seq.passClock + 1 else s.seq.passClock
          settle := s.seq.settle.map (· - 1)
          stepTimer := s.seq.stepTimer.tick
          pacer := s.seq.pacer.map (· - 1) }
        tu := { s.tu with
          lineDue := s.tu.lineWatching
          cmpDue := s.tu.cmpWatching &&
            decide (s.tu.cfg.sampling = .timebase ∨ s.seq.state = .armed ∨ s.seq.pacer = some 1)
          monitorTimer := s.tu.monitorTimer.map (· - 1) }
        cv.claim := s.cv.claim.map fun c => { c with left := c.left - 1 }
        ck.absorbDue := s.ck.job.isSome && decide (s.ck.entryCount < 256)
        lp := { s.lp with
          gap := if s.pins.lrx = false ∧ s.lp.gap.getD 0 < 5000 then none else s.lp.gap.map (· + 1)
          lowFor := if s.pins.lrx then 0 else s.lp.lowFor + 1
          sinceReset := min (s.lp.sinceReset + lineSpeed s.lp.speed) 2450000000
          service := s.lp.service.tick
          reply := s.lp.reply.map fun r =>
            if r.waiting then r else { r with clock := r.clock + lineSpeed s.lp.speed } } } := by
  rw [advance, LinkPort.tick_eq, TriggerUnit.tick, comparatorSamples_eq]
  rfl

/-- Settles O5: the blocks' microsecond, the moments of the outside, what may land, and RSTN. -/
theorem oneMicrosecondOfTime : Obligations.OneMicrosecondOfTime := by
  unfold Obligations.OneMicrosecondOfTime
  refine ⟨fun s up nothing => ?_, fun s m rest coming up stays => tick_moment coming up stays,
    fun s m rest coming low => ?_, fun m since => ⟨List.filter_sublist, fun c => mem_landing⟩,
    lineBytes_requestCommand, fun b => ⟨rfl, rfl, rfl, rfl⟩, fun tag mask => ⟨rfl, rfl, rfl, rfl⟩,
    fun c s t silent next => ?_, fun m => arrivals_nothing, fun m b => arrivals_byte,
    fun s b low => ⟨fun nothing => ?_, deaf_of_reset low b⟩⟩
  · obtain ⟨counts, stands⟩ := s.seq.stepTimer.tick_spec
    obtain ⟨settles, waits⟩ := s.lp.service.tick_spec
    exact ⟨s.seq.stepTimer.tick, s.lp.service.tick, (tick_quiet up nothing).trans (advance_eq s), counts, stands,
      settles, waits⟩
  · have arrived := arrive_cons coming
    have down : s.pins.rstn = false ∨ (arrive s).pins.rstn = false := by rwa [arrived]
    refine ⟨tick_reset_atPowerOn down, ?_⟩
    rw [tick_reset down, arrived, coming]
    exact ⟨rfl, rfl, rfl⟩
  · obtain ⟨u, answer, takes⟩ := exec_takesNoByte silent s
    cases answer.symm.trans next
    exact takes
  · refine ⟨tick_reset_atPowerOn (.inl low), ?_⟩
    rw [tick_reset (.inl low), arrive_nil nothing]
    rfl

end Sys2Proof.Machine
end

section
/-! PROOFS. The requests of the Trigger Unit and of the Digital Lines, the level monitor, the samples of TRIG
and DIN (O17, O18, O41, O42). -/

namespace Sys2Proof.Machine

/-! ## TRIGGER SET (R47) -/

section TriggerSet

variable {s : State} (tag : Byte) (body : List Byte)

theorem triggerSetRequest_busy (active : s.active = true) :
    triggerSetRequest tag body s = refuse kindTriggerSet tag .busy s := if_pos active

theorem triggerSetRequest_badField (idle : s.active = false) (bad : trigger? body = none) :
    triggerSetRequest tag body s = refuse kindTriggerSet tag .badField s := by
  simp [triggerSetRequest, idle, bad]

theorem triggerSetRequest_sets (idle : s.active = false) {cfg : TriggerConfig} (read : trigger? body = some cfg) :
    triggerSetRequest tag body s = ack kindTriggerSet tag [] { s with tu.cfg := cfg } := by
  simp [triggerSetRequest, idle, read]

end TriggerSet

/-- Settles O17: TRIGGER SET by its three outcomes. -/
theorem triggerSetReplacesConfiguration : Obligations.TriggerSetReplacesConfiguration := by
  unfold Obligations.TriggerSetReplacesConfiguration
  intro s tag body rest ready length
  have meaning : exec (.triggerSet tag body) s = .next (triggerSetRequest tag body (s.awaiting rest)) :=
    owner_serves ready rfl (decide_eq_true length)
  rw [meaning]
  refine ⟨fun active => ?_, fun stopped => ⟨fun bad => ?_, fun cfg read => ?_⟩⟩
  · exact congrArg _ (triggerSetRequest_busy (s := s.awaiting rest) tag body (active_of_ne active))
  · exact congrArg _ (triggerSetRequest_badField (s := s.awaiting rest) tag body (inactive_of_eq stopped) bad)
  · exact congrArg _ (triggerSetRequest_sets (s := s.awaiting rest) tag body (inactive_of_eq stopped) read)

/-! ## OUTPUT SET (R62, R179) -/

section OutputSet

variable {s : State} (tag value pattern : Byte)

theorem outputSetRequest_badField {apply : Byte} (bad : 2 ≤ apply.toNat) :
    outputSetRequest tag [apply, value, pattern] s = refuse kindOutputSet tag .badField s := by
  have unread : mark? apply = none := by
    rw [← Option.not_isSome_iff_eq_none, mark?_isSome]
    exact Nat.not_lt.mpr bad
  simp [outputSetRequest, unread]

/-- Apply-now no: the rest pattern alone is stored, whatever the sequencer's state (R62). -/
theorem outputSetRequest_stores :
    outputSetRequest tag [0, value, pattern] s =
      ack kindOutputSet tag [s.dl.latch, pattern] { s with dl.rest := pattern } := rfl

theorem outputSetRequest_busy (active : s.active = true) :
    outputSetRequest tag [1, value, pattern] s = refuse kindOutputSet tag .busy s := if_pos active

/-- Apply-now yes in STOPPED: the rest pattern is stored and the value written (R62). -/
theorem outputSetRequest_applies (idle : s.active = false) :
    outputSetRequest tag [1, value, pattern] s =
      ack kindOutputSet tag [value, pattern] { s with dl := { latch := value, rest := pattern } } :=
  if_neg (Bool.eq_false_iff.mp idle)

end OutputSet

/-- Settles O18: OUTPUT SET by its apply-now code and the state. -/
theorem outputSetStoresRestAndValue : Obligations.OutputSetStoresRestAndValue := by
  unfold Obligations.OutputSetStoresRestAndValue
  intro s tag apply value pattern rest ready
  have meaning : exec (.outputSet tag [apply, value, pattern]) s =
      .next (outputSetRequest tag [apply, value, pattern] (s.awaiting rest)) := owner_serves ready rfl rfl
  rw [meaning]
  refine ⟨fun bad => ?_, ?_, ?_, ?_⟩
  · exact congrArg _ (outputSetRequest_badField (s := s.awaiting rest) tag value pattern bad)
  · rintro rfl
    exact congrArg _ (outputSetRequest_stores (s := s.awaiting rest) tag value pattern)
  · rintro rfl active
    exact congrArg _ (outputSetRequest_busy (s := s.awaiting rest) tag value pattern (active_of_ne active))
  · rintro rfl stopped
    exact congrArg _ (outputSetRequest_applies (s := s.awaiting rest) tag value pattern (inactive_of_eq stopped))

/-! ## The level monitor (R56, R57) -/

/-- The conversion that completes a claim hands it to its claimant (R70, R71). -/
theorem conversionEnd_completes {s : State} {c : Claim} (claim : s.cv.claim = some c) (ended : c.left = 0)
    (last : c.done + 1 = c.asked.count) : exec .conversionEnd s = .next (completeClaim c.afterConversion s) := by
  have due : s.conversionDue = true := by simp [State.conversionDue, claim, ended]
  have complete : ¬ c.afterConversion.done < c.asked.count := Nat.not_lt.mpr last.ge
  have acts : exec .conversionEnd s = .next (endConversion c s) := by
    show execConversionEnd s = _
    simp only [execConversionEnd, claim, if_pos due]
  rw [acts, endConversion, if_neg complete]

/-- The raw code of a claim for one conversion is that conversion's code (R71). -/
theorem rawCode_of_one {c : Claim} (one : c.asked = .one) (fresh : c.sum = 0) :
    c.afterConversion.rawCode = (convert c.range c.input).1 := by
  simp [Claim.rawCode, Claim.afterConversion, one, fresh, Averaging.count]

/-- The one conversion of a monitor's claim brings its code to the monitor (R56, R71). -/
theorem conversionEnd_monitor {s : State} {c : Claim} (claim : s.cv.claim = some c) (ended : c.left = 0)
    (monitor : c.claimant = .monitor) (one : c.asked = .one) (first : c.done = 0) (fresh : c.sum = 0) :
    exec .conversionEnd s = .next (completeMonitor (convert c.range c.input).1 { s with cv.claim := none }) := by
  have last : c.done + 1 = c.asked.count := by rw [first, one]; rfl
  have holder : c.afterConversion.claimant = .monitor := monitor
  rw [conversionEnd_completes claim ended last]
  simp only [completeClaim, holder, rawCode_of_one one fresh]

section Judgement

variable {raw : Nat} {s : State}

theorem completeMonitor_unmet (unmet : ¬ s.monitorCondition raw = true) :
    completeMonitor raw s = { s with tu.monitor := .timing, tu.seenFalse := true } :=
  if_pos (Bool.eq_false_iff.mpr unmet)

variable (met : s.monitorCondition raw = true)

include met

theorem completeMonitor_unseen (unseen : s.tu.seenFalse = false) :
    completeMonitor raw s = { s with tu.monitor := .timing } := by
  simp [completeMonitor, met, unseen]

theorem completeMonitor_triggers (seen : s.tu.seenFalse = true) (armed : s.seq.state = .armed) :
    completeMonitor raw s = startTrigger { s with tu.monitor := .idle, tu.monitorTimer := none } := by
  simp [completeMonitor, met, seen, armed]

end Judgement

/-- Settles O41: the expiry claims the Converter; the completion by the three cases of R57. -/
theorem levelMonitorTriggers : Obligations.LevelMonitorTriggers := by
  unfold Obligations.LevelMonitorTriggers
  refine ⟨fun s timing expired => ?_, fun s c claim ended monitor one first fresh => ?_⟩
  · have due : s.monitorDue = true := by simp [State.monitorDue, timing, expired]
    have acts : exec .monitorIntervalExpiry s = .next (expireMonitorInterval s) := congrArg _ (if_pos due)
    rw [acts]
    rfl
  · intro raw met
    have judged : ({ s with cv.claim := none } : State).monitorCondition raw = true ↔ met := by
      dsimp only [State.monitorCondition, met]
      cases s.tu.cfg.direction with
      | above => exact decide_eq_true_iff
      | below => exact decide_eq_true_iff
    rw [conversionEnd_monitor claim ended monitor one first fresh]
    refine ⟨fun unmet => ?_, fun holds unseen => ?_, fun holds seen armed => ?_⟩
    · exact congrArg _ (completeMonitor_unmet (mt judged.mp unmet))
    · exact congrArg _ (completeMonitor_unseen (judged.mpr holds) unseen)
    · exact congrArg _ (completeMonitor_triggers (judged.mpr holds) seen armed)

/-! ## What an edge and a pattern event mean to the sequencer (TABLE 3.2, R54) -/

theorem edgeReport_armed {s : State} (armed : s.seq.state = .armed) :
    edgeReport s = if s.seq.ctx.start = .line then startTrigger s else s := by
  unfold edgeReport; rw [armed]

theorem edgeReport_releases {s : State} (paused : s.seq.state = .paused) (line : s.seq.ctx.release = .line) :
    edgeReport s = stepBegin { s with seq.pauseMark := true } := by
  unfold edgeReport; rw [paused]; exact if_pos line

theorem patternReport_armed {s : State} (armed : s.seq.state = .armed) :
    patternReport s = if s.seq.ctx.start = .pattern then startTrigger s else s := by
  unfold patternReport; rw [armed]

section Run

variable {s : State} (triggered : s.seq.state ≠ .armed) (active : s.seq.state ≠ .stopped)

include triggered active

/-- In a run an edge that releases no pause is a stop where LINE is in the stop set, and nothing elsewhere. -/
theorem edgeReport_run (held : ¬ (s.seq.state = .paused ∧ s.seq.ctx.release = .line)) :
    edgeReport s = if s.seq.ctx.stopLine then runStop .line s else s := by
  unfold edgeReport
  cases state : s.seq.state with
  | stopped => exact absurd state active
  | armed => exact absurd state triggered
  | paused => exact if_neg fun line => held ⟨state, line⟩
  | running | waiting | halted => rfl

/-- In a run a pattern event is a stop where PATTERN is in the stop set, and nothing elsewhere. -/
theorem patternReport_run : patternReport s = if s.seq.ctx.stopPattern then runStop .pattern s else s := by
  unfold patternReport
  cases state : s.seq.state with
  | stopped => exact absurd state active
  | armed => exact absurd state triggered
  | paused | running | waiting | halted => rfl

end Run

/-! ## Which samples are edges and pattern events (R48, R52, R53) -/

theorem isEdge_rising {s : State} (rising : s.tu.cfg.polarity = .rising) :
    s.isEdge = true ↔ s.tu.lineLevel = false ∧ s.pins.trig = true := by
  simp [State.isEdge, rising]

theorem isEdge_falling {s : State} (falling : s.tu.cfg.polarity = .falling) :
    s.isEdge = true ↔ s.tu.lineLevel = true ∧ s.pins.trig = false := by
  simp [State.isEdge, falling]

theorem isPatternEvent_matching {s : State} (matching : s.tu.cfg.mode = .matching) :
    s.isPatternEvent = true ↔ s.tu.cfg.mask ≠ 0 ∧ s.sampleMatches = true ∧ s.tu.prevMatch = false := by
  simp [State.isPatternEvent, matching]

theorem isPatternEvent_change {s : State} (change : s.tu.cfg.mode = .change) :
    s.isPatternEvent = true ↔ s.tu.cfg.mask ≠ 0 ∧ s.maskedDin ≠ s.tu.prevMasked := by
  simp [State.isPatternEvent, change]

/-! ## The samples of TRIG and DIN (R48 to R54) -/

section LineSample

variable {s : State} (due : s.lineDue = true)

include due

theorem lineWatcherSample_keeps (level : ¬ s.isEdge = true) :
    exec .lineWatcherSample s = .next (keepLineSample s) :=
  congrArg _ ((if_pos due).trans (if_neg level))

theorem lineWatcherSample_reports (edge : s.isEdge = true) :
    exec .lineWatcherSample s = .next (edgeReport (keepLineSample s)) :=
  congrArg _ ((if_pos due).trans (if_pos edge))

theorem trigEdge_reports (edge : s.isEdge = true) : exec .trigEdge s = .next (edgeReport (keepLineSample s)) :=
  congrArg _ (if_pos (Bool.and_eq_true_iff.mpr ⟨due, edge⟩))

end LineSample

section PatternSample

variable {s : State} (due : s.cmpDue = true)

include due

theorem comparatorSample_keeps (quiet : ¬ s.isPatternEvent = true) :
    exec .comparatorSample s = .next (keepPatternSample s) :=
  congrArg _ ((if_pos due).trans (if_neg quiet))

theorem comparatorSample_reports (event : s.isPatternEvent = true) :
    exec .comparatorSample s = .next (patternReport (raise .pattern (keepPatternSample s))) :=
  congrArg _ ((if_pos due).trans (if_pos event))

theorem patternEvent_reports (event : s.isPatternEvent = true) :
    exec .patternEvent s = .next (patternReport (raise .pattern (keepPatternSample s))) :=
  congrArg _ (if_pos (Bool.and_eq_true_iff.mpr ⟨due, event⟩))

end PatternSample

/-- Settles O42: an edge and a pattern event by TABLE 3.2, every other sample kept. -/
theorem triggerSamplesAreReported : Obligations.TriggerSamplesAreReported := by
  unfold Obligations.TriggerSamplesAreReported
  refine ⟨fun s watching sample => ?_, fun s watching sample => ?_⟩
  · intro kept edge
    have due : s.lineDue = true := by simp [State.lineDue, watching, sample]
    have edge_iff : s.isEdge = true ↔ edge := by
      dsimp only [edge]
      cases polarity : s.tu.cfg.polarity with
      | rising => exact isEdge_rising polarity
      | falling => exact isEdge_falling polarity
    refine ⟨fun level => lineWatcherSample_keeps due (mt edge_iff.mp level), fun isEdge => ?_⟩
    have reports : exec .trigEdge s = .next (edgeReport kept) := trigEdge_reports due (edge_iff.mpr isEdge)
    rw [reports]
    refine ⟨(lineWatcherSample_reports due (edge_iff.mpr isEdge)).symm, fun armed => ?_, fun paused line => ?_,
      fun triggered active held => ?_⟩
    · exact congrArg _ (edgeReport_armed (s := kept) armed)
    · exact congrArg _ (edgeReport_releases (s := kept) paused line)
    · rw [edgeReport_run (s := kept) triggered active held]
      exact ⟨fun goesOn => congrArg _ (if_neg (Bool.eq_false_iff.mp goesOn)),
        fun stops => ⟨_, congrArg _ (if_pos stops), runStop_runStopped (by decide) kept⟩⟩
  · intro masked matched kept flagged event
    have due : s.cmpDue = true := by simp [State.cmpDue, watching, sample]
    have event_iff : s.isPatternEvent = true ↔ event := by
      dsimp only [event]
      cases mode : s.tu.cfg.mode with
      | matching => exact isPatternEvent_matching mode
      | change => exact isPatternEvent_change mode
    refine ⟨fun quiet => comparatorSample_keeps due (mt event_iff.mp quiet), fun isEvent => ?_⟩
    have reports : exec .patternEvent s = .next (patternReport flagged) :=
      patternEvent_reports due (event_iff.mpr isEvent)
    rw [reports]
    refine ⟨(comparatorSample_reports due (event_iff.mpr isEvent)).symm, fun armed => ?_,
      fun triggered active => ?_⟩
    · exact congrArg _ (patternReport_armed (s := flagged) armed)
    · rw [patternReport_run (s := flagged) triggered active]
      exact ⟨fun goesOn => congrArg _ (if_neg (Bool.eq_false_iff.mp goesOn)),
        fun stops => ⟨_, congrArg _ (if_pos stops), runStop_runStopped (by decide) flagged⟩⟩

end Sys2Proof.Machine
end

section
/-! PROOFS. The ideal codes, the end of a conversion, and SAMPLE from its service to its reply (O22, O23, O39, O46). -/

namespace Sys2Proof.Machine

/-! ## The ideal codes (R67 to R69) -/

section Bipolar

variable {r v : Int}

theorem bipolarCode_below (below : v < -r) : bipolarCode r v = (0, true) := if_pos below

/-- The upper end of a bipolar range is overranged (R68, R69). -/
theorem bipolarCode_above (span : 0 < r) (above : r ≤ v) : bipolarCode r v = (16383, true) := by
  have notBelow : ¬ v < -r := by omega
  rw [bipolarCode, if_neg notBelow, if_pos above]

/-- Offset binary: the whole part of 8192 + 8192 v / r is that of 8192 (v + r) / r (R68). -/
theorem bipolarCode_within {code : Nat} (low : -r ≤ v) (high : v < r) (least : code * r ≤ (v + r) * 8192)
    (below : (v + r) * 8192 < (code + 1) * r) : bipolarCode r v = (code, false) := by
  have span : 0 < r := by omega
  have offset : 8192 + v * 8192 / r = code :=
    calc 8192 + v * 8192 / r
      _ = (v * 8192 + 8192 * r) / r := by rw [Int.add_mul_ediv_right _ _ span.ne', add_comm]
      _ = (v + r) * 8192 / r := by rw [add_mul, mul_comm r]
      _ = code := (Int.ediv_eq_iff_of_pos span).mpr ⟨least, by rwa [add_one_mul] at below⟩
  rw [bipolarCode, if_neg (not_lt.mpr low), if_neg (not_le.mpr high), offset, Int.toNat_natCast]

end Bipolar

section Unipolar

variable {v : Int}

theorem unipolarCode_below (below : v < 0) : unipolarCode v = (0, true) := if_pos below

theorem unipolarCode_above (above : 10000000000000000 < v) : unipolarCode v = (16383, true) := by
  have notBelow : ¬ v < 0 := by omega
  exact (if_neg notBelow).trans (if_pos above)

/-- Both ends of UNI10 lie within it (R67, R69). -/
theorem unipolarCode_within {code : Nat} (low : 0 ≤ v) (high : v ≤ 10000000000000000)
    (least : code * 10000000000000000 ≤ v * 16383) (below : v * 16383 < (code + 1) * 10000000000000000) :
    unipolarCode v = (code, false) := by
  have top : (10 * Config.volt : Int) = 10000000000000000 := rfl
  have quotient : v * 16383 / 10000000000000000 = code :=
    (Int.ediv_eq_iff_of_pos (by decide)).mpr ⟨least, by rwa [add_one_mul] at below⟩
  rw [unipolarCode, if_neg (not_lt.mpr low), top, if_neg (not_lt.mpr high), quotient, Int.toNat_natCast]

end Unipolar

/-- The bipolar ranges with their half-spans in femtovolts (R67; log 11). -/
def bipolarSpans : List (Range × Int) :=
  [(.bip10, 10000000000000000), (.bip5, 5000000000000000), (.bip2, 2500000000000000)]

theorem convert_bipolar {range : Range} {r : Int} (listed : (range, r) ∈ bipolarSpans) :
    0 < r ∧ ∀ v, convert range v = bipolarCode r v := by
  simp only [bipolarSpans, List.mem_cons, List.not_mem_nil, or_false, Prod.mk.injEq] at listed
  obtain ⟨rfl, rfl⟩ | ⟨rfl, rfl⟩ | ⟨rfl, rfl⟩ := listed
  iterate 3 exact ⟨by decide, fun _ => rfl⟩

/-- Settles O46: the code below, above and within each range. -/
theorem conversionCodes : Obligations.ConversionCodes := by
  unfold Obligations.ConversionCodes
  refine fun v code => ⟨fun range r listed => ?_, unipolarCode_below, unipolarCode_above, unipolarCode_within⟩
  obtain ⟨span, code_eq⟩ := convert_bipolar listed
  rw [code_eq]
  exact ⟨bipolarCode_below, bipolarCode_above span, bipolarCode_within⟩

/-! ## The end of a conversion (R66, R70, R71) -/

/-- With conversions left the next one samples the claim's input anew (R66, R70). -/
theorem conversionEnd_continues {s : State} {c : Claim} (claim : s.cv.claim = some c) (ended : c.left = 0)
    (more : c.done + 1 < c.asked.count) :
    exec .conversionEnd s =
      .next { s with cv.claim := some { c.afterConversion with input := s.pins.ain.get c.channel, left := 5 } } := by
  have due : s.conversionDue = true := by simp [State.conversionDue, claim, ended]
  have acts : exec .conversionEnd s = .next (endConversion c s) := by
    show execConversionEnd s = _
    simp only [execConversionEnd, claim, if_pos due]
  rw [acts]
  exact congrArg _ (if_pos more)

theorem completeClaim_step {c : Claim} (step : c.claimant = .step) (s : State) :
    completeClaim c s = completeStep c.rawCode c.overrange { s with cv.claim := none } := by
  simp only [completeClaim, step]

theorem completeClaim_sample {c : Claim} (sample : c.claimant = .sample) (s : State) :
    completeClaim c s = completeSample c.rawCode c.overrange { s with cv.claim := none } := by
  simp only [completeClaim, sample]

/-- Settles O39: a conversion end by whether the claim's conversions are done. -/
theorem conversionEndAddsOrCompletes : Obligations.ConversionEndAddsOrCompletes := by
  unfold Obligations.ConversionEndAddsOrCompletes
  refine fun s c claim ended => ⟨conversionEnd_continues claim ended, fun last step => ?_⟩
  have holder : c.afterConversion.claimant = .step := step
  rw [conversionEnd_completes claim ended last, completeClaim_step holder]
  rfl

/-! ## SAMPLE (R74 to R77) -/

section Sample

variable {s : State} (tag : Byte) {body : List Byte}

theorem sampleRequest_busy (active : s.active = true) : sampleRequest tag body s = refuse kindSample tag .busy s :=
  if_pos active

theorem sampleRequest_badField (idle : s.active = false) (bad : sample? body = none) :
    sampleRequest tag body s = refuse kindSample tag .badField s := by
  simp [sampleRequest, idle, bad]

/-- An accepted SAMPLE starts its settle timer and forms no reply yet (R75). -/
theorem sampleRequest_settles (idle : s.active = false) {f : SampleFields} (read : sample? body = some f) :
    sampleRequest tag body s = { s with lp.service := .sampleSettling tag f f.settle.toNat } := by
  simp [sampleRequest, idle, read]

end Sample

/-- At its settle's expiry a SAMPLE reads DIN and claims the Converter (R75). -/
theorem sampleSettleExpiry_claims {s : State} {tag : Byte} {f : SampleFields}
    (settled : s.lp.service = .sampleSettling tag f 0) :
    exec .sampleSettleExpiry s =
      .next { claimConverter .sample f.channel f.range f.averaging s with
        lp.service := .sampleConverting tag f s.pins.din } := by
  show execSampleSettleExpiry s = _
  simp only [execSampleSettleExpiry, settled]

/-- Settles O22: SAMPLE by its three outcomes, and the expiry of its settle. -/
theorem sampleSettlesAndClaims : Obligations.SampleSettlesAndClaims := by
  unfold Obligations.SampleSettlesAndClaims
  refine ⟨fun s tag body rest ready length => ?_, fun s tag f settled => sampleSettleExpiry_claims settled⟩
  have meaning : exec (.sample tag body) s = .next (sampleRequest tag body (s.awaiting rest)) :=
    owner_serves ready rfl (decide_eq_true length)
  rw [meaning]
  refine ⟨fun active => ?_, fun stopped bad => ?_, fun f stopped read => ?_⟩
  · exact congrArg _ (sampleRequest_busy (s := s.awaiting rest) tag (active_of_ne active))
  · exact congrArg _ (sampleRequest_badField (s := s.awaiting rest) tag (inactive_of_eq stopped) bad)
  · exact congrArg _ (sampleRequest_settles (s := s.awaiting rest) tag (inactive_of_eq stopped) read)

/-- The reply of a request that took time fills the reply buffer, and after a break leaves it as it was (R164, R168). -/
theorem finishService_eq (r : Frame) (s : State) :
    finishService r s =
      { s with
        lp := { s.lp with
          service := .idle, abandoned := false
          reply :=
            if s.lp.abandoned then s.lp.reply
            else some { reply := r, sent := 0, clock := 0, waiting := !s.pins.holdn, cut := false } } } := by
  unfold finishService putReply
  cases abandoned : s.lp.abandoned with
  | true => rfl
  | false => rfl

theorem completeSample_converting {s : State} {tag din : Byte} {f : SampleFields}
    (converting : s.lp.service = .sampleConverting tag f din) (raw : Nat) (ovr : Bool) :
    completeSample raw ovr s = finishService { kind := 0xA8, tag, body := sampleBody s f raw ovr din } s := by
  simp only [completeSample, converting]
  rfl

/-- Settles O23: the last conversion hands the mean to the SAMPLE, whose reply ends its service. -/
theorem sampleCompletesWithItsReply : Obligations.SampleCompletesWithItsReply := by
  unfold Obligations.SampleCompletesWithItsReply
  intro s tag din f c converting claim sample ended last raw p j v
  have holder : c.afterConversion.claimant = .sample := sample
  rw [conversionEnd_completes claim ended last, completeClaim_sample holder,
    completeSample_converting (s := { s with cv.claim := none }) converting, finishService_eq]
  rfl

end Sys2Proof.Machine
end

section
/-! PROOFS. PROFILE SET and SUBSTITUTE SET (O24, O25). -/

namespace Sys2Proof.Machine

/-! ## PROFILE SET (R81, R82) -/

section ProfileSet

variable {s : State} (tag : Byte) {number : Byte} {bytes : List Byte} (i : Fin 16) (p : Profile)

theorem profileSetRequest_badField (bad : 16 ≤ number.toNat ∨ profile? bytes = none) :
    profileSetRequest tag (number :: bytes) s = refuse kindProfileSet tag .badField s := by
  obtain above | invalid := bad
  · simp only [profileSetRequest, nibble?_none above]
  · rw [profileSetRequest, invalid]
    cases nibble? number with
    | none => rfl
    | some i => rfl

variable {i p} in
/-- An accepted record is set, and the ACK's disposition is whether it was staged (R81, 10.6). -/
theorem profileSetRequest_sets (number_i : number.toNat = i.val) (read : profile? bytes = some p) :
    profileSetRequest tag (number :: bytes) s =
      ack kindProfileSet tag [number, markByte s.active] (setProfile i p s) := by
  simp only [profileSetRequest, nibble?_eq number_i, read]

theorem setProfile_stopped (idle : s.active = false) :
    setProfile i p s = { s with fm.active := s.fm.active.set i.val p i.isLt } := by
  simp [setProfile, idle, putAt]

theorem setProfile_active (active : s.active = true) :
    setProfile i p s = { s with fm.staged := s.fm.staged.set i.val (some p) i.isLt } := if_pos active

end ProfileSet

/-- Settles O24: PROFILE SET by whether its body is read, and by whether a run is active. -/
theorem profileSetActivatesOrStages : Obligations.ProfileSetActivatesOrStages := by
  unfold Obligations.ProfileSetActivatesOrStages
  intro s tag number bytes rest ready length
  have meaning : exec (.profileSet tag (number :: bytes)) s =
      .next (profileSetRequest tag (number :: bytes) (s.awaiting rest)) :=
    owner_serves ready rfl (by simp [length])
  rw [meaning]
  refine ⟨fun bad => congrArg _ (profileSetRequest_badField tag bad), fun i p number_i read => ?_⟩
  rw [profileSetRequest_sets tag number_i read]
  refine ⟨fun stopped => ?_, fun running => ?_⟩
  · have idle : (s.awaiting rest).active = false := inactive_of_eq stopped
    rw [setProfile_stopped i p idle, idle]; rfl
  · have active : (s.awaiting rest).active = true := active_of_ne running
    rw [setProfile_active i p active, active]; rfl

/-! ## SUBSTITUTE SET (R85) -/

section SubstituteSet

variable {s : State} (tag : Byte) {start n : Byte} {bytes : List Byte}

theorem substituteSetRequest_busy (active : s.active = true) :
    substituteSetRequest tag (start :: n :: bytes) s = refuse kindSubstituteSet tag .busy s :=
  if_pos active

theorem substituteSetRequest_badField (idle : s.active = false) (count : n.toNat = 0 ∨ 16 < n.toNat) :
    substituteSetRequest tag (start :: n :: bytes) s = refuse kindSubstituteSet tag .badField s := by
  simp [substituteSetRequest, idle, count]

theorem substituteSetRequest_range (idle : s.active = false) (least : 1 ≤ n.toNat) (few : n.toNat ≤ 16)
    (beyond : 16 < start.toNat + n.toNat) :
    substituteSetRequest tag (start :: n :: bytes) s = refuse kindSubstituteSet tag .range s := by
  have count : ¬ (n.toNat = 0 ∨ 16 < n.toNat) := by omega
  simp only [substituteSetRequest, idle, count, beyond, Bool.false_eq_true, if_false, if_true]

theorem substituteSetRequest_writes (idle : s.active = false) (least : 1 ≤ n.toNat)
    (within : start.toNat + n.toNat ≤ 16) :
    substituteSetRequest tag (start :: n :: bytes) s =
      ack kindSubstituteSet tag (wordBytes (writeFrom s.fm.subst start.toNat (words16 bytes)).toList)
        { s with fm.subst := writeFrom s.fm.subst start.toNat (words16 bytes) } := by
  have count : ¬ (n.toNat = 0 ∨ 16 < n.toNat) := by omega
  have room : ¬ 16 < start.toNat + n.toNat := by omega
  simp only [substituteSetRequest, idle, count, room, Bool.false_eq_true, if_false]

end SubstituteSet

section WriteWords

variable {size : Nat} (t : Vector Word16 size) {start k : Nat} {bytes : List Byte} (i : Fin size)

/-- An entry that a list of words reaches has the number its two bytes carry. -/
theorem get_writeFrom_words16 (low : start ≤ i.val) {b0 b1 : Byte} (byte0 : bytes[2 * (i.val - start)]? = some b0)
    (byte1 : bytes[2 * (i.val - start) + 1]? = some b1) :
    ((writeFrom t start (words16 bytes)).get i).toNat = num16 b0 b1 := by
  rw [get_writeFrom, if_pos low, words16_getElem? bytes _ b0 b1 byte0 byte1, Option.getD_some, BitVec.toNat_ofNat,
    Nat.mod_eq_of_lt (num16_lt b0 b1)]

/-- An entry before or after the words written is as it was. -/
theorem get_writeFrom_words16_outside (length : bytes.length = 2 * k) (outside : i.val < start ∨ start + k ≤ i.val) :
    (writeFrom t start (words16 bytes)).get i = t.get i := by
  rw [get_writeFrom]
  obtain before | after := outside
  · exact if_neg (Nat.not_le.mpr before)
  · have words : (words16 bytes).length ≤ i.val - start := by rw [words16_length]; omega
    rw [List.getElem?_eq_none words, Option.getD_none, ite_self]

end WriteWords

/-- Settles O25: SUBSTITUTE SET by its three checks in order, and the table it writes. -/
theorem substituteSetWritesTheTable : Obligations.SubstituteSetWritesTheTable := by
  unfold Obligations.SubstituteSetWritesTheTable
  intro s tag start n bytes rest ready length
  have meaning : exec (.substituteSet tag (start :: n :: bytes)) s =
      .next (substituteSetRequest tag (start :: n :: bytes) (s.awaiting rest)) :=
    owner_serves ready rfl (decide_eq_true length)
  rw [meaning]
  refine ⟨fun active => ?_, fun stopped count => ?_, fun stopped least few beyond => ?_,
    fun stopped least within => ⟨writeFrom s.fm.subst start.toNat (words16 bytes), ?_, fun i => ⟨?_, ?_⟩⟩⟩
  · exact congrArg _ (substituteSetRequest_busy (s := s.awaiting rest) tag (active_of_ne active))
  · exact congrArg _ (substituteSetRequest_badField (s := s.awaiting rest) tag (inactive_of_eq stopped) count)
  · exact congrArg _
      (substituteSetRequest_range (s := s.awaiting rest) tag (inactive_of_eq stopped) least few beyond)
  · exact congrArg _
      (substituteSetRequest_writes (s := s.awaiting rest) tag (inactive_of_eq stopped) least within)
  · rintro ⟨low, -⟩ b0 b1 byte0 byte1
    exact get_writeFrom_words16 s.fm.subst i low byte0 byte1
  · exact get_writeFrom_words16_outside s.fm.subst i length

end Sys2Proof.Machine
end

section
/-! PROOFS. How a value is formed, and the record of a step (O40, O47, O48, O49). -/

namespace Sys2Proof.Machine

/-! ## Zones (R87, TABLE 5.3) -/

section Zones

variable (p : Profile) (raw : Nat)

theorem zoneAfter_normal_eq_high : p.zoneAfter .normal raw = .high ↔ p.high.toNat < raw := by
  simp only [Profile.zoneAfter]
  split_ifs with above <;> simp [above]

theorem zoneAfter_low_eq_high : p.zoneAfter .low raw = .high ↔ p.high.toNat < raw := by
  simp only [Profile.zoneAfter]
  split_ifs with above <;> simp [above]

theorem zoneAfter_high_eq_low : p.zoneAfter .high raw = .low ↔ raw < p.low.toNat := by
  simp only [Profile.zoneAfter]
  split_ifs with below <;> simp [below]

/-- HIGH is looked at before LOW; with L not above H no raw code is both (R80, R87). -/
theorem zoneAfter_normal_eq_low (valid : p.valid) : p.zoneAfter .normal raw = .low ↔ raw < p.low.toNat := by
  have ordered : p.low.toNat ≤ p.high.toNat := valid
  simp only [Profile.zoneAfter]
  split_ifs with above below
  · have notBelow : ¬ raw < p.low.toNat := by omega
    simp [notBelow]
  · simp [below]
  · simp [below]

/-- HIGH falls back to NORMAL at H - Y, not taken below 0 (R87). -/
theorem zoneAfter_high_eq_normal :
    p.zoneAfter .high raw = .normal ↔ p.low.toNat ≤ raw ∧ raw ≤ p.high.toNat - p.hysteresis.toNat := by
  simp only [Profile.zoneAfter]
  split_ifs with below back
  · simp [below]
  · simp [back, Nat.not_lt.mp below]
  · simp [back]

/-- LOW rises back to NORMAL at L + Y, not taken above 16383 (R87). -/
theorem zoneAfter_low_eq_normal :
    p.zoneAfter .low raw = .normal ↔
      raw ≤ p.high.toNat ∧ min (p.low.toNat + p.hysteresis.toNat) 16383 ≤ raw := by
  simp only [Profile.zoneAfter]
  split_ifs with above back
  · simp [above]
  · exact iff_of_true rfl ⟨Nat.not_lt.mp above, back⟩
  · exact iff_of_false nofun fun moved => back moved.2

end Zones

/-- Settles O47: each move of TABLE 5.3, its bounds read as whole numbers. -/
theorem zoneTable : Obligations.ZoneTable := by
  unfold Obligations.ZoneTable
  intro p raw valid _ H L Y
  rw [zoneAfter_normal_eq_high, zoneAfter_normal_eq_low p raw valid, zoneAfter_high_eq_low, zoneAfter_high_eq_normal,
    zoneAfter_low_eq_high, zoneAfter_low_eq_normal]
  refine ⟨?_, ?_, ?_, ?_, ?_, ?_⟩ <;> omega

/-! ## Forms (R95, R96) -/

section Forms

variable {p : Profile} (tm : TranslationMap) (channel : Fin 16) (raw : Nat)

theorem formValue_directRight (form : p.form = .directRight) :
    p.formValue tm channel raw = .plain (BitVec.ofNat 16 raw) := by
  simp only [Profile.formValue, form]

theorem formValue_directLeft (form : p.form = .directLeft) :
    p.formValue tm channel raw = .plain (BitVec.ofNat 16 (4 * raw)) := by
  simp only [Profile.formValue, form]

theorem formValue_signed (form : p.form = .signed) :
    p.formValue tm channel raw = .plain (BitVec.ofInt 16 ((raw : Int) - 8192)) := by
  simp only [Profile.formValue, form]

/-- A direct form carries no flag (R99). -/
theorem formValue_plain_of_direct (direct : p.form ≠ .mapped) :
    ∃ value, p.formValue tm channel raw = Formed.plain value := by
  cases form : p.form with
  | directRight => exact ⟨_, formValue_directRight tm channel raw form⟩
  | directLeft => exact ⟨_, formValue_directLeft tm channel raw form⟩
  | signed => exact ⟨_, formValue_signed tm channel raw form⟩
  | mapped => exact absurd form direct

theorem pageFor_eq : p.pageFor channel = if p.pageSource = .channel then channel else p.page := by
  unfold Profile.pageFor
  cases p.pageSource with
  | channel => rfl
  | fixed => rfl

/-- With an empty live half a MAPPED value is the raw code, flagged UNMAPPED (R96). -/
theorem formValue_unmapped (form : p.form = .mapped)
    (empty : (tm.pages.get (p.pageFor channel)).state (tm.pages.get (p.pageFor channel)).live = .empty) :
    p.formValue tm channel raw = { Formed.plain (BitVec.ofNat 16 raw) with unmapped := true } := by
  simp only [Profile.formValue, form, if_pos empty]

/-- With entries in the live half a MAPPED value is interpolated between them (R96, R97). -/
theorem formValue_mapped (form : p.form = .mapped)
    (loaded : (tm.pages.get (p.pageFor channel)).state (tm.pages.get (p.pageFor channel)).live ≠ .empty) :
    p.formValue tm channel raw =
      .plain (interpolate ((tm.pages.get (p.pageFor channel)).entries (tm.pages.get (p.pageFor channel)).live) raw) := by
  simp only [Profile.formValue, form, if_neg loaded]

end Forms

/-- Settles O48: the three direct forms, none of which leaves sixteen bits. -/
theorem directForms : Obligations.DirectForms := by
  unfold Obligations.DirectForms
  intro p tm channel raw code value
  refine ⟨fun form => ?_, fun form => ?_, fun form => ?_⟩
  · have right : value = BitVec.ofNat 16 raw := by simp only [value, formValue_directRight tm channel raw form]; rfl
    rw [right, BitVec.toNat_ofNat]; omega
  · have left : value = BitVec.ofNat 16 (4 * raw) := by
      simp only [value, formValue_directLeft tm channel raw form]; rfl
    rw [left, BitVec.toNat_ofNat]; omega
  · have signed : value = BitVec.ofInt 16 ((raw : Int) - 8192) := by
      simp only [value, formValue_signed tm channel raw form]; rfl
    rw [signed, BitVec.toInt_ofInt_eq_self] <;> omega

/-! ## Override and floor (R92 to R94) -/

theorem bitAt_le (position : Nat) (b : Bool) : bitAt position b ≤ 2 ^ position := by
  unfold bitAt; split_ifs <;> simp

/-- The condition vector is the sum of its four slots' weights (R92). -/
theorem vector_val (p : Profile) (j : Judgement) :
    (p.vector j).val = bitAt 0 (j.slotBit p.slot0) + bitAt 1 (j.slotBit p.slot1) + bitAt 2 (j.slotBit p.slot2) +
      bitAt 3 (j.slotBit p.slot3) := by
  have bound0 := bitAt_le 0 (j.slotBit p.slot0)
  have bound1 := bitAt_le 1 (j.slotBit p.slot1)
  have bound2 := bitAt_le 2 (j.slotBit p.slot2)
  have bound3 := bitAt_le 3 (j.slotBit p.slot3)
  exact Nat.mod_eq_of_lt (by omega)

section Formation

variable {p : Profile} (subst : Vector Word16 16) (tm : TranslationMap) (channel : Fin 16) {raw : Nat} {j : Judgement}

theorem formed_overridden (met : p.vector j ≠ 0) :
    p.formed subst tm channel raw j = { Formed.plain (subst.get (p.vector j)) with overridden := true } := if_pos met

theorem formed_floor (unmet : p.vector j = 0) (enabled : p.floorEnabled = true) (atOrBelow : raw ≤ p.floor.toNat) :
    p.formed subst tm channel raw j = { Formed.plain (subst.get 0) with floor := true } := by
  simp [Profile.formed, unmet, enabled, atOrBelow]

theorem formed_form (unmet : p.vector j = 0) (clear : p.floorEnabled = false ∨ p.floor.toNat < raw) :
    p.formed subst tm channel raw j = p.formValue tm channel raw := by
  have noFloor : ¬ (p.floorEnabled && decide (raw ≤ p.floor.toNat)) = true := by
    obtain disabled | above := clear
    · simp [disabled]
    · simp [above]
  rw [Profile.formed, if_neg (not_not.mpr unmet), if_neg noFloor]

end Formation

/-! ## Interpolation (R97) -/

/-- A part of a rise, less than the whole and truncated, lies between nothing and the rise. -/
theorem tdiv_part_of_rise {d f : Int} (rise : 0 ≤ d) (least : 0 ≤ f) (part : f < 64) :
    0 ≤ (d * f).tdiv 64 ∧ (d * f).tdiv 64 ≤ d := by
  have nonneg : 0 ≤ d * f := Int.mul_nonneg rise least
  have atMost : d * f ≤ d * 64 := Int.mul_le_mul_of_nonneg_left part.le rise
  rw [Int.tdiv_eq_ediv_of_nonneg nonneg]
  omega

/-- Interpolation truncated toward the lower-index entry does not leave the two entries, rising or falling. -/
theorem tdiv_between (low high : Int) {f : Int} (least : 0 ≤ f) (part : f < 64) :
    min low high ≤ low + ((high - low) * f).tdiv 64 ∧ low + ((high - low) * f).tdiv 64 ≤ max low high := by
  obtain rise | fall := le_total low high
  · obtain ⟨_, _⟩ := tdiv_part_of_rise (Int.sub_nonneg.mpr rise) least part
    omega
  · obtain ⟨_, _⟩ := tdiv_part_of_rise (Int.sub_nonneg.mpr fall) least part
    have mirrored : ((high - low) * f).tdiv 64 = -((low - high) * f).tdiv 64 := by
      rw [← Int.neg_tdiv, ← Int.neg_mul, Int.neg_sub]
    omega

theorem entryAt_eq_get (t : Vector Word16 256) (i : Fin 256) : entryAt t i.val = t.get i := by
  simp [entryAt, get_eq_getElem]

/-- Codes of the last segment have no entry above: they take the last entry (R97). -/
theorem interpolate_last (t : Vector Word16 256) {raw : Nat} {i : Fin 256} (last : i.val = 255)
    (segment : raw / 64 = 255) : interpolate t raw = t.get i := by
  rw [interpolate, if_pos segment.ge, ← last, entryAt_eq_get]

/-- Between two entries the value is a word that needs no wrapping (R97). -/
theorem interpolate_toInt (t : Vector Word16 256) {raw : Nat} {i k : Fin 256} (segment : raw / 64 = i.val)
    (next : k.val = i.val + 1) :
    (interpolate t raw).toInt =
      (t.get i).toInt + (((t.get k).toInt - (t.get i).toInt) * ((raw % 64 : Nat) : Int)).tdiv 64 := by
  have inside : ¬ 255 ≤ raw / 64 := by omega
  have fraction : ((raw % 64 : Nat) : Int) < 64 := by omega
  have bounds := tdiv_between (t.get i).toInt (t.get k).toInt (Int.natCast_nonneg (raw % 64)) fraction
  have leastI := BitVec.le_toInt (t.get i)
  have leastK := BitVec.le_toInt (t.get k)
  have mostI := BitVec.toInt_lt (x := t.get i)
  have mostK := BitVec.toInt_lt (x := t.get k)
  rw [interpolate, if_neg inside, segment, ← next, entryAt_eq_get, entryAt_eq_get,
    BitVec.toInt_ofInt_eq_self (by decide)] <;> omega

/-- Settles O49: override, floor and form in order, the MAPPED form by its page, and the interpolation. -/
theorem overrideFloorAndMap : Obligations.OverrideFloorAndMap := by
  unfold Obligations.OverrideFloorAndMap
  refine ⟨fun p subst tm channel raw j => ⟨vector_val p j, formed_overridden subst tm channel,
    formed_floor subst tm channel, formed_form subst tm channel, formValue_plain_of_direct tm channel raw,
    fun form => ?_⟩, fun t raw _ => ⟨fun i => interpolate_last t, fun i k segment next => ?_⟩⟩
  · rw [← pageFor_eq]
    exact ⟨formValue_unmapped tm channel raw form, formValue_mapped tm channel raw form⟩
  · have fraction : ((raw % 64 : Nat) : Int) < 64 := by omega
    dsimp only
    rw [interpolate_toInt t segment next]
    exact ⟨rfl, tdiv_between _ _ (Int.natCast_nonneg _) fraction⟩

/-! ## A step's completion (R86 to R100) -/

/-- A step moves its slot's zone, and LIMIT is set just where the zone leaves NORMAL (R87, R89). -/
theorem updateZone_eq (raw : Nat) (s : State) :
    updateZone raw s =
      { s with
        fm.zones := s.fm.zones.set s.seq.stepIndex.val (s.zoneAfterStep raw) s.seq.stepIndex.isLt
        lp.flags := if s.crosses raw then s.lp.flags ||| Flag.limit.bit else s.lp.flags } := by
  unfold updateZone
  cases s.crosses raw with
  | true => rfl
  | false => rfl

/-- Settles O40: the zone moves, and the record is formed of the step's judgements and offered. -/
theorem stepCompletionFormsTheRecord : Obligations.StepCompletionFormsTheRecord := by
  unfold Obligations.StepCompletionFormsTheRecord
  intro s raw ovr e p before after crossed j v
  rw [completeStep, updateZone_eq]
  rfl

end Sys2Proof.Machine
end

section
/-! PROOFS. What a run may do to the pages and to a check in progress: at most a pass boundary. -/

namespace Sys2Proof.Machine

/-- The check in progress stands, and the pages stand or flip as at a pass boundary, without which STOPPED is not
entered (R42, R120). -/
structure BoundaryAtMost (s t : State) : Prop where
  job : t.ck.job = s.ck.job
  entryCount : t.ck.entryCount = s.ck.entryCount
  commit : ∀ tag expected, t.lp.service = .commit tag expected ↔ s.lp.service = .commit tag expected
  pages : t.tm = s.tm ∧ (t.seq.state = .stopped → s.seq.state = .stopped) ∨ t.tm = s.tm.flipPending

/-- An operation under which the pages and a check in progress see a pass boundary at most. -/
def KeepsPages (operation : State → State) : Prop := ∀ s, BoundaryAtMost s (operation s)

/-! ## Two boundaries are one -/

theorem afterBoundary_still {pg : Page} (still : pg.pending = false) : pg.afterBoundary = pg :=
  if_neg (by simp [still])

theorem afterBoundary_pending {pg : Page} (pending : pg.pending = true) : pg.afterBoundary = pg.flip := by
  rw [Page.afterBoundary, if_pos pending]
  cases live : pg.live <;> simp [Page.flip, Half.other, live]

theorem afterBoundary_settled (pg : Page) : pg.afterBoundary.pending = false := by
  cases pending : pg.pending with
  | false => rw [afterBoundary_still pending, pending]
  | true => rw [afterBoundary_pending pending]; rfl

theorem afterBoundary_idem (pg : Page) : pg.afterBoundary.afterBoundary = pg.afterBoundary :=
  afterBoundary_still (afterBoundary_settled pg)

theorem flipPending_idem (tm : TranslationMap) : tm.flipPending.flipPending = tm.flipPending := by
  have pages : tm.flipPending.flipPending.pages = tm.flipPending.pages := by
    ext i inside : 1
    have twice := flipPending_page tm.flipPending ⟨i, inside⟩
    rw [flipPending_page tm, afterBoundary_idem, ← flipPending_page tm] at twice
    exact twice
  exact congrArg TranslationMap.mk pages

namespace BoundaryAtMost

theorem refl (s : State) : BoundaryAtMost s s := ⟨rfl, rfl, fun _ _ => .rfl, .inl ⟨rfl, id⟩⟩

theorem trans {s t u : State} (first : BoundaryAtMost s t) (second : BoundaryAtMost t u) : BoundaryAtMost s u where
  job := second.job.trans first.job
  entryCount := second.entryCount.trans first.entryCount
  commit tag expected := (second.commit tag expected).trans (first.commit tag expected)
  pages := by
    obtain ⟨stand, outside⟩ | flip := first.pages <;> obtain ⟨stand', outside'⟩ | flip' := second.pages
    · exact .inl ⟨stand'.trans stand, outside ∘ outside'⟩
    · exact .inr (by rw [flip', stand])
    · exact .inr (stand'.trans flip)
    · exact .inr (by rw [flip', flip, flipPending_idem])

variable {s t : State} (job : t.ck.job = s.ck.job) (entryCount : t.ck.entryCount = s.ck.entryCount)
  (service : t.lp.service = s.lp.service)

include job entryCount service

/-- The Translation Map stands and a run goes on. -/
theorem of_running (tm : t.tm = s.tm) (running : t.seq.state ≠ .stopped) : BoundaryAtMost s t :=
  ⟨job, entryCount, fun _ _ => by rw [service], .inl ⟨tm, fun stopped => absurd stopped running⟩⟩

/-- The Translation Map sees a pass boundary. -/
theorem of_flip (tm : t.tm = s.tm.flipPending) : BoundaryAtMost s t :=
  ⟨job, entryCount, fun _ _ => by rw [service], .inr tm⟩

end BoundaryAtMost

/-! ## Steps, passes and stops -/

theorem enterStopped_keepsPages (cause : EndCause) : KeepsPages (enterStopped cause) := fun s =>
  .of_flip (by simp) (by simp) (by simp) (enterStopped_tm cause s)

theorem runStop_keepsPages (cause : EndCause) : KeepsPages (runStop cause) := by
  intro s
  refine .of_flip (by simp) (by simp) (by simp) ?_
  unfold runStop
  dsimp only
  split_ifs <;> simp [enterStopped_tm]

theorem nextStep_keepsPages : KeepsPages nextStep := fun _ =>
  .of_running (by simp) (by simp) (by simp) (by simp) (stepBegin_running _)

theorem passStart_keepsPages : KeepsPages passStart := fun _ =>
  .of_running (by simp) (by simp) (by simp) (by simp) (stepBegin_running _)

theorem startTrigger_keepsPages : KeepsPages startTrigger := fun _ =>
  .of_running (by simp) (by simp) (by simp) (by simp) (stepBegin_running _)

theorem releasePause_keepsPages : KeepsPages releasePause := fun _ =>
  .of_running (by simp) (by simp) (by simp) (by simp) (stepBegin_running _)

theorem passContinue_keepsPages (stopCause : Bool) : KeepsPages (passContinue stopCause) := by
  intro s
  unfold passContinue
  split_ifs
  · exact enterStopped_keepsPages .limit s
  · exact enterStopped_keepsPages .complete s
  · exact passStart_keepsPages s
  · exact .of_running rfl rfl rfl rfl nofun

/-- A pass end brings its own boundary, and STOPPED another where the run ends with it (R33, R42). -/
theorem passEnd_keepsPages (stopCause : Bool) : KeepsPages (passEnd stopCause) := by
  intro s
  have closed : BoundaryAtMost s (boundary (raise .passEnd (appendMarker .complete s))) :=
    .of_flip (by simp) (by simp) (by simp) (by simp [boundary_tm])
  exact closed.trans (passContinue_keepsPages stopCause _)

theorem afterAppend_keepsPages (stopCause : Bool) : KeepsPages (afterAppend stopCause) := by
  intro s
  unfold afterAppend
  split_ifs
  · exact runStop_keepsPages .limit s
  · exact passEnd_keepsPages stopCause s
  · exact nextStep_keepsPages s
  · exact .of_running rfl rfl rfl rfl nofun

theorem appendSample_keepsPages (r : SampleRecord) : KeepsPages (appendSample r) := by
  intro s; constructor <;> simp

theorem offerSample_keepsPages (o : Offer) : KeepsPages (offerSample o) := by
  intro s
  unfold offerSample
  split_ifs
  · exact .of_running (by simp) (by simp) (by simp) (by simp) (by simp)
  · exact (appendSample_keepsPages o.record s).trans (afterAppend_keepsPages o.stopCause _)

theorem discardHeld_keepsPages : KeepsPages discardHeld := by
  intro s; constructor <;> simp

theorem releaseHeld_keepsPages : KeepsPages releaseHeld := by
  intro s
  unfold releaseHeld
  split
  · rename_i o _
    split_ifs
    · exact ((discardHeld_keepsPages s).trans (appendSample_keepsPages o.record _)).trans
        (afterAppend_keepsPages o.stopCause _)
    · exact .refl s
  · exact .refl s

/-! ## Reports, requests of a run and resets -/

theorem edgeReport_keepsPages : KeepsPages edgeReport := by
  intro s
  obtain same | ⟨-, -, starts⟩ | ⟨-, -, releases⟩ | ⟨-, -, -, stops⟩ := edgeReport_cases s
  · rw [same]; exact .refl s
  · rw [starts]; exact startTrigger_keepsPages s
  · rw [releases]; exact releasePause_keepsPages s
  · rw [stops]; exact runStop_keepsPages .line s

theorem patternReport_keepsPages : KeepsPages patternReport := by
  intro s
  obtain same | ⟨-, -, starts⟩ | ⟨-, -, -, stops⟩ := patternReport_cases s
  · rw [same]; exact .refl s
  · rw [starts]; exact startTrigger_keepsPages s
  · rw [stops]; exact runStop_keepsPages .pattern s

theorem stopRun_keepsPages : KeepsPages stopRun := by
  intro s
  obtain ⟨-, same⟩ | ⟨-, ends⟩ | ⟨-, -, stops⟩ := stopRun_cases s
  · rw [same]; exact .refl s
  · rw [ends]; exact enterStopped_keepsPages .request s
  · rw [stops]; exact runStop_keepsPages .request s

theorem armRun_keepsPages (f : ArmFields) : KeepsPages (armRun f) := by
  intro s
  have prepared : BoundaryAtMost s (s.armedBy f) := .of_running rfl rfl rfl rfl nofun
  cases start : f.ctx.start with
  | now => rw [armRun_now start]; exact prepared.trans (startTrigger_keepsPages _)
  | level => rw [armRun_level start]; exact .of_running rfl rfl rfl rfl nofun
  | line => rw [armRun_waits (.inl start)]; exact prepared
  | pattern => rw [armRun_waits (.inr start)]; exact prepared

theorem resetEffect_keepsPages : KeepsPages resetEffect := by
  have blocks : KeepsPages resetBlocks := fun s => by constructor <;> simp [resetBlocks]
  intro s
  unfold resetEffect
  split_ifs
  · have cleared : BoundaryAtMost s (discardHeld (abandonStep s)) := by constructor <;> simp
    exact (cleared.trans (enterStopped_keepsPages .reset _)).trans (blocks _)
  · exact blocks s

/-! ## The events of a run and of the line -/

theorem expireSettle_keepsPages : KeepsPages expireSettle := by
  intro s
  have held : BoundaryAtMost s (holdReading s) := ⟨rfl, rfl, fun _ _ => .rfl, .inl ⟨rfl, id⟩⟩
  unfold expireSettle
  dsimp only
  cases s.entry.source with
  | analog => exact .of_running rfl rfl rfl rfl nofun
  | digital => exact held.trans (offerSample_keepsPages _ _)

theorem expireStepTimer_keepsPages : KeepsPages expireStepTimer := by
  intro s
  unfold expireStepTimer
  split_ifs
  · exact nextStep_keepsPages s
  · constructor <;> simp

theorem missTick_keepsPages : KeepsPages missTick := by
  intro s; constructor <;> simp [missTick]

theorem expirePacer_keepsPages : KeepsPages expirePacer := by
  intro s
  have next : BoundaryAtMost s { s with seq.pacer := some s.seq.ctx.passInterval.toNat } := by constructor <;> simp
  unfold expirePacer
  dsimp only
  split
  · exact next.trans (passStart_keepsPages _)
  iterate 3 exact next.trans (missTick_keepsPages _)
  iterate 2 exact next

theorem sampleLine_keepsPages : KeepsPages sampleLine := by
  intro s
  have kept : BoundaryAtMost s (keepLineSample s) := by constructor <;> simp
  unfold sampleLine
  split_ifs
  · exact kept.trans (edgeReport_keepsPages _)
  · exact kept

theorem reportPattern_keepsPages : KeepsPages fun s => patternReport (raise .pattern (keepPatternSample s)) := by
  intro s
  have kept : BoundaryAtMost s (raise .pattern (keepPatternSample s)) := by constructor <;> simp
  exact kept.trans (patternReport_keepsPages _)

theorem samplePattern_keepsPages : KeepsPages samplePattern := by
  intro s
  unfold samplePattern
  split_ifs
  · exact reportPattern_keepsPages s
  · constructor <;> simp

theorem completeStep_keepsPages (raw : Nat) (ovr : Bool) : KeepsPages (completeStep raw ovr) := by
  intro s
  have moved : BoundaryAtMost s (updateZone raw s) := by
    rw [updateZone_eq]; constructor <;> simp
  exact moved.trans (offerSample_keepsPages _ _)

theorem completeMonitor_keepsPages (raw : Nat) : KeepsPages (completeMonitor raw) := by
  intro s
  have idle : BoundaryAtMost s { s with tu.monitor := .idle, tu.monitorTimer := none } := by constructor <;> simp
  unfold completeMonitor
  dsimp only
  split_ifs
  iterate 2 constructor <;> simp
  · exact idle.trans (startTrigger_keepsPages _)
  · exact idle

/-- A SAMPLE that completes was no MAP COMMIT, nor is the idle service it leaves. -/
theorem completeSample_keepsPages (raw : Nat) (ovr : Bool) : KeepsPages (completeSample raw ovr) := by
  intro s
  unfold completeSample
  split
  · rename_i converting
    rw [finishService_eq]
    constructor <;> simp [converting]
  · exact .refl s

theorem endConversion_keepsPages (c : Claim) : KeepsPages (endConversion c) := by
  intro s
  have idle : BoundaryAtMost s { s with cv.claim := none } := by constructor <;> simp
  unfold endConversion
  split_ifs
  · constructor <;> simp
  · unfold completeClaim
    dsimp only
    cases c.afterConversion.claimant with
    | step => exact idle.trans (completeStep_keepsPages _ _ _)
    | monitor => exact idle.trans (completeMonitor_keepsPages _ _)
    | sample => exact idle.trans (completeSample_keepsPages _ _ _)

theorem endReply_keepsPages (r : Transmission) : KeepsPages (endReply r) := by
  intro s
  have emptied : BoundaryAtMost s { s with lp.reply := none } := by constructor <;> simp
  unfold endReply
  dsimp only
  split_ifs
  · exact emptied.trans (resetEffect_keepsPages _)
  · exact emptied

theorem raise_keepsPages (f : Flag) : KeepsPages (raise f) := by
  intro s; constructor <;> simp

theorem cutReply_keepsPages (r : Transmission) : KeepsPages (cutReply r) := fun s =>
  (endReply_keepsPages r s).trans (raise_keepsPages .linkBreak _)

theorem breakReply_keepsPages : KeepsPages breakReply := by
  intro s
  unfold breakReply
  split
  · exact raise_keepsPages .linkBreak s
  · split_ifs
    · exact cutReply_keepsPages _ s
    · constructor <;> simp

end Sys2Proof.Machine
end

section
/-! PROOFS. The requests and actions under which the pages and a check in progress stand. -/

namespace Sys2Proof.Machine

theorem takeRequest_keepsPages : KeepsPages takeRequest := by
  intro s; constructor <;> simp

theorem putReply_keepsPages (r : Frame) : KeepsPages (putReply r) := by
  intro s; constructor <;> simp

theorem ack_keepsPages (kind tag : Byte) (body : List Byte) : KeepsPages (ack kind tag body) := putReply_keepsPages _

theorem refuse_keepsPages (kind tag : Byte) (reason : Reason) : KeepsPages (refuse kind tag reason) :=
  putReply_keepsPages _

theorem attentionSetRequest_keepsPages (tag : Byte) (body : List Byte) :
    KeepsPages (attentionSetRequest tag body) := by
  intro s; unfold attentionSetRequest; repeat' split
  all_goals constructor <;> simp

theorem programLoadRequest_keepsPages (tag : Byte) (body : List Byte) : KeepsPages (programLoadRequest tag body) := by
  intro s; unfold programLoadRequest loadProgram; dsimp only; repeat' split
  all_goals constructor <;> simp

theorem programTrimRequest_keepsPages (tag : Byte) (body : List Byte) : KeepsPages (programTrimRequest tag body) := by
  intro s; unfold programTrimRequest; repeat' split
  all_goals constructor <;> simp

theorem programReadRequest_keepsPages (tag : Byte) (body : List Byte) : KeepsPages (programReadRequest tag body) := by
  intro s; unfold programReadRequest; repeat' split
  all_goals constructor <;> simp

theorem triggerSetRequest_keepsPages (tag : Byte) (body : List Byte) : KeepsPages (triggerSetRequest tag body) := by
  intro s; unfold triggerSetRequest; repeat' split
  all_goals constructor <;> simp

theorem outputSetRequest_keepsPages (tag : Byte) (body : List Byte) : KeepsPages (outputSetRequest tag body) := by
  intro s; unfold outputSetRequest outputSetAck; repeat' split
  all_goals constructor <;> simp

theorem profileSetRequest_keepsPages (tag : Byte) (body : List Byte) : KeepsPages (profileSetRequest tag body) := by
  intro s; unfold profileSetRequest setProfile; repeat' split
  all_goals constructor <;> simp

theorem profileReadRequest_keepsPages (tag : Byte) (body : List Byte) : KeepsPages (profileReadRequest tag body) := by
  intro s; unfold profileReadRequest; repeat' split
  all_goals constructor <;> simp

theorem substituteSetRequest_keepsPages (tag : Byte) (body : List Byte) :
    KeepsPages (substituteSetRequest tag body) := by
  intro s; unfold substituteSetRequest; repeat' split
  all_goals constructor <;> simp

theorem mapReadRequest_keepsPages (tag : Byte) (body : List Byte) : KeepsPages (mapReadRequest tag body) := by
  intro s; unfold mapReadRequest; repeat' split
  all_goals constructor <;> simp

theorem checkSetRequest_keepsPages (tag : Byte) (body : List Byte) : KeepsPages (checkSetRequest tag body) := by
  intro s; unfold checkSetRequest setCheck; repeat' split
  all_goals constructor <;> simp

theorem armRequest_keepsPages (tag : Byte) (body : List Byte) : KeepsPages (armRequest tag body) := by
  intro s
  unfold armRequest
  split_ifs
  iterate 2 exact refuse_keepsPages _ _ _ s
  split
  · exact refuse_keepsPages _ _ _ s
  · exact (armRun_keepsPages _ s).trans (ack_keepsPages _ _ _ _)

theorem stopRequest_keepsPages (tag : Byte) : KeepsPages (stopRequest tag) := fun s =>
  (stopRun_keepsPages s).trans (ack_keepsPages _ _ _ _)

theorem resumeRequest_keepsPages (tag : Byte) : KeepsPages (resumeRequest tag) := by
  intro s
  unfold resumeRequest
  split_ifs
  iterate 2 exact refuse_keepsPages _ _ _ s
  exact (releasePause_keepsPages s).trans (ack_keepsPages _ _ _ _)

theorem drainRequest_keepsPages (tag : Byte) (body : List Byte) : KeepsPages (drainRequest tag body) := by
  intro s
  unfold drainRequest
  split
  · rename_i n
    split_ifs
    · exact refuse_keepsPages _ _ _ s
    · have removed : BoundaryAtMost s (removeRecords n.toNat s) := by constructor <;> simp [removeRecords]
      exact (removed.trans (releaseHeld_keepsPages _)).trans (ack_keepsPages _ _ _ _)
  · exact refuse_keepsPages _ _ _ s

/-! ## The actions of CLEAR but ERASE_MAPS -/

theorem clearFlags_keepsPages (mask : BitVec 14) : KeepsPages (clearFlags mask) := by
  intro s; constructor <;> simp

/-- EMPTY_QUEUE may release a held record, and the run go on to a pass boundary (R153, R144). -/
theorem emptyQueueAction_keepsPages : KeepsPages emptyQueueAction := by
  intro s
  have emptied : BoundaryAtMost s { s with rq.records := [], rq.lossMark := false } := by constructor <;> simp
  exact emptied.trans (releaseHeld_keepsPages _)

theorem eraseProgramAction_keepsPages : KeepsPages eraseProgramAction := by
  intro s; constructor <;> simp

theorem restOutputsAction_keepsPages : KeepsPages restOutputsAction := by
  intro s; constructor <;> simp

theorem actIf_keepsPages {action : State → State} (named : Bool) (keeps : KeepsPages action) :
    KeepsPages (actIf named action) := by
  intro s
  cases named
  · exact .refl s
  · exact keeps s

end Sys2Proof.Machine
end

section
/-! PROOFS. Every step keeps the pages safe (O55). -/

namespace Sys2Proof.Machine

/-! ## The two halves of a page -/

theorem other_ne (h : Half) : h.other ≠ h := by cases h <;> decide

theorem other_other (h : Half) : h.other.other = h := by cases h <;> rfl

theorem live_ne_standby (pg : Page) : pg.live ≠ pg.standby := (other_ne pg.live).symm

section Halves

variable (pg : Page) {h k : Half} (st : HalfState) (entries : Vector Word16 256)

@[simp] theorem setState_frame :
    (pg.setState h st).live = pg.live ∧ (pg.setState h st).pending = pg.pending ∧
    (pg.setState h st).entries = pg.entries := by
  cases h <;> exact ⟨rfl, rfl, rfl⟩

@[simp] theorem setEntries_frame :
    (pg.setEntries h entries).live = pg.live ∧ (pg.setEntries h entries).pending = pg.pending ∧
    (pg.setEntries h entries).state = pg.state := by
  cases h <;> exact ⟨rfl, rfl, rfl⟩

@[simp] theorem setState_same : (pg.setState h st).state h = st := by cases h <;> rfl

theorem setState_other (apart : k ≠ h) : (pg.setState h st).state k = pg.state k := by
  cases h <;> cases k <;> simp [Page.setState, Page.state] at apart ⊢

theorem setEntries_other (apart : k ≠ h) : (pg.setEntries h entries).entries k = pg.entries k := by
  cases h <;> cases k <;> simp [Page.setEntries, Page.entries] at apart ⊢

/-- A page's own entries put back. -/
theorem setEntries_entries : pg.setEntries h (pg.entries h) = pg := by cases h <;> rfl

end Halves

/-! ## What a page keeps of itself -/

/-- What R105, R107, R108 and R119 say of one page, whatever the sequencer and the check units do. -/
structure Page.Sound (pg : Page) : Prop where
  live : pg.state pg.live = .checked ∨ pg.state pg.live = .empty ∧ pg.live = .a
  empty : ∀ h, pg.state h = .empty → ∀ j, (pg.entries h).get j = 0
  pending : pg.pending = true → pg.state pg.standby = .checked

namespace Page.Sound

variable {pg : Page}

theorem erased : Page.erased.Sound where
  live := .inr ⟨rfl, rfl⟩
  empty h _ j := by cases h <;> exact get_replicate _ _
  pending := nofun

/-- A flip to a CHECKED standby half (R117, R118). -/
theorem flip (sound : pg.Sound) (checked : pg.state pg.standby = .checked) : pg.flip.Sound :=
  ⟨.inl checked, sound.empty, nofun⟩

theorem swap (sound : pg.Sound) (checked : pg.state pg.standby = .checked) (active : Bool) :
    (pg.swap active).Sound := by
  cases active with
  | false => exact sound.flip checked
  | true => exact ⟨sound.live, sound.empty, fun _ => checked⟩

theorem afterBoundary (sound : pg.Sound) : pg.afterBoundary.Sound := by
  cases pending : pg.pending with
  | false => rw [afterBoundary_still pending]; exact sound
  | true => rw [afterBoundary_pending pending]; exact sound.flip (sound.pending pending)

/-- The standby half of a page with no swap pending takes any entries with any state but EMPTY (R110, R114). -/
theorem restock (sound : pg.Sound) (still : pg.pending = false) (t : Vector Word16 256) {st : HalfState}
    (filled : st ≠ .empty) : ((pg.setEntries pg.standby t).setState pg.standby st).Sound where
  live := by
    have apart := live_ne_standby pg
    simpa [setState_other _ _ apart] using sound.live
  empty h isEmpty := by
    have apart : h ≠ pg.standby := by
      rintro rfl
      exact filled ((setState_same _ st).symm.trans isEmpty)
    have wasEmpty : pg.state h = .empty := by simpa [setState_other _ _ apart] using isEmpty
    simpa [setEntries_other pg _ apart] using sound.empty h wasEmpty
  pending pending := by simp [still] at pending

theorem load (sound : pg.Sound) (still : pg.pending = false) (start : Nat) (values : List Word16) :
    (pg.load start values).Sound :=
  sound.restock still _ nofun

/-- The outcome of a check on the standby half, with any last residue (R114). -/
theorem judge (sound : pg.Sound) (still : pg.pending = false) {outcome : HalfState} (filled : outcome ≠ .empty)
    (residue : BitVec 32) : ({ pg.setState pg.standby outcome with lastResidue := residue } : Page).Sound := by
  obtain ⟨live, empty, pending⟩ := sound.restock still (pg.entries pg.standby) filled
  rw [setEntries_entries] at live empty pending
  exact ⟨live, empty, pending⟩

end Page.Sound

/-! ## The invariant, page by page -/

namespace MapSafe

variable {s t : State}

theorem sound (safe : MapSafe s) (i : Fin 16) : (s.tm.pages.get i).Sound :=
  ⟨safe.live i, safe.empty i, fun pending => (safe.pending i pending).1⟩

/-- With no request in service nothing is under check (R113). -/
theorem unchecked (safe : MapSafe s) (idle : s.lp.service = .idle) : s.ck.job = none := by
  by_contra busy
  obtain ⟨tag, expected, commit⟩ := safe.checking.mp (Option.isSome_iff_ne_none.mpr busy)
  cases idle.symm.trans commit

theorem uncommitted (safe : MapSafe s) (job : s.ck.job = none) (tag : Byte) (expected : BitVec 32) :
    s.lp.service ≠ .commit tag expected := by
  intro commit
  have busy := safe.checking.mpr ⟨tag, expected, commit⟩
  rw [job] at busy
  cases busy

/-- Sound pages with nothing under check. -/
theorem of_sound (sound : ∀ i, (s.tm.pages.get i).Sound)
    (active : ∀ i, (s.tm.pages.get i).pending = true → s.seq.state ≠ .stopped) (job : s.ck.job = none)
    (commit : ∀ tag expected, s.lp.service ≠ .commit tag expected) (entryCount : s.ck.entryCount ≤ 256) :
    MapSafe s where
  live i := (sound i).live
  empty i := (sound i).empty
  pending i pending := ⟨(sound i).pending pending, active i pending⟩
  job i h found := by rw [job] at found; cases found
  checking := by simp [job, commit]
  entryCount := entryCount

/-- A pass boundary at most keeps the pages safe: STOPPED finds no swap pending, a half under check does not flip. -/
theorem follow (safe : MapSafe s) (most : BoundaryAtMost s t) : MapSafe t := by
  obtain ⟨job, entryCount, commit, ⟨stand, outside⟩ | flip⟩ := most
  · refine ⟨by rw [stand]; exact safe.live, by rw [stand]; exact safe.empty, fun i pending => ?_, ?_, ?_, ?_⟩
    · rw [stand] at pending ⊢
      exact ⟨(safe.pending i pending).1, fun stopped => (safe.pending i pending).2 (outside stopped)⟩
    · rw [stand, job]; exact safe.job
    · simpa only [job, commit] using safe.checking
    · rw [entryCount]; exact safe.entryCount
  · have page (i : Fin 16) : t.tm.pages.get i = (s.tm.pages.get i).afterBoundary := by rw [flip, flipPending_page]
    have settled (i : Fin 16) : (t.tm.pages.get i).pending = false := by
      rw [page]; exact afterBoundary_settled _
    have sound (i : Fin 16) : (t.tm.pages.get i).Sound := by rw [page]; exact (safe.sound i).afterBoundary
    refine ⟨fun i => (sound i).live, fun i => (sound i).empty, fun i pending => ?_, fun i h found => ?_, ?_, ?_⟩
    · cases (settled i).symm.trans pending
    · obtain ⟨standby, still, filled⟩ := safe.job i h (job ▸ found)
      rw [page, afterBoundary_still still]
      exact ⟨standby, still, filled⟩
    · simpa only [job, commit] using safe.checking
    · rw [entryCount]; exact safe.entryCount

/-- One page replaced by a sound one, nothing being under check. -/
theorem put (safe : MapSafe s) (job : s.ck.job = none) (i : Fin 16) {pg : Page} (sound : pg.Sound)
    (active : pg.pending = true → s.seq.state ≠ .stopped) : MapSafe (putPage i pg s) := by
  have page (j : Fin 16) : (putPage i pg s).tm.pages.get j = if i = j then pg else s.tm.pages.get j :=
    get_putAt _ _ _ _
  refine of_sound (fun j => ?_) (fun j => ?_) job (safe.uncommitted job) safe.entryCount
  · rw [page]; split_ifs
    · exact sound
    · exact safe.sound j
  · rw [page]; split_ifs
    · exact active
    · exact fun pending => (safe.pending j pending).2

end MapSafe

/-! ## The requests and events of the Translation Map, SAMPLE and ERASE_MAPS -/

/-- A property that stands before an action of CLEAR and after it stands where the action is named or not. -/
theorem actIf_of {P : State → Prop} {named : Bool} {action : State → State} {s : State} (before : P s)
    (after : P (action s)) : P (actIf named action s) := by
  cases named
  · exact before
  · exact after

section Requests

variable {s : State} (tag : Byte) (body : List Byte)

theorem refuse_mapSafe (kind : Byte) (reason : Reason) (safe : MapSafe s) : MapSafe (refuse kind tag reason s) :=
  safe.follow (refuse_keepsPages _ _ _ s)

theorem ack_mapSafe (kind : Byte) (safe : MapSafe s) : MapSafe (ack kind tag body s) :=
  safe.follow (ack_keepsPages _ _ _ s)

theorem beginCheck_mapSafe (i : Fin 16) (expected : BitVec 32) (still : (s.tm.pages.get i).pending = false)
    (filled : (s.tm.pages.get i).state (s.tm.pages.get i).standby ≠ .empty) (safe : MapSafe s) :
    MapSafe (beginCheck tag i expected s) := by
  refine ⟨safe.live, safe.empty, safe.pending, fun j h found => ?_, by simp [beginCheck], Nat.zero_le _⟩
  cases found
  exact ⟨rfl, still, filled⟩

theorem mapCommitRequest_mapSafe (safe : MapSafe s) : MapSafe (mapCommitRequest tag body s) := by
  unfold mapCommitRequest
  split
  · split
    · exact refuse_mapSafe _ _ _ safe
    · rename_i i _
      split_ifs with pending isEmpty
      iterate 2 exact refuse_mapSafe _ _ _ safe
      exact beginCheck_mapSafe _ i _ (by simpa using pending) isEmpty safe
  · exact refuse_mapSafe _ _ _ safe

/-- Erased pages are sound, and no half of them is under check (R123, R124). -/
theorem eraseMapsAction_mapSafe (job : s.ck.job = none) (safe : MapSafe s) : MapSafe (eraseMapsAction s) := by
  have page (i : Fin 16) : (eraseMapsAction s).tm.pages.get i = Page.erased := get_replicate _ _
  refine .of_sound (fun i => ?_) (fun i pending => ?_) job (safe.uncommitted job) safe.entryCount
  · rw [page]; exact .erased
  · rw [page] at pending; cases pending

variable (idle : s.lp.service = .idle)

include idle

theorem mapLoadRequest_mapSafe (safe : MapSafe s) : MapSafe (mapLoadRequest tag body s) := by
  unfold mapLoadRequest
  split
  · rename_i page start count bytes
    split
    · exact refuse_mapSafe _ _ _ safe
    · rename_i i _
      split_ifs with badCount pending beyond
      iterate 3 exact refuse_mapSafe _ _ _ safe
      have still : (s.tm.pages.get i).pending = false := by simpa using pending
      refine ack_mapSafe _ _ _ (safe.put (safe.unchecked idle) i ((safe.sound i).load still _ _) fun waits => ?_)
      simp [Page.load, still] at waits
  · exact refuse_mapSafe _ _ _ safe

/-- A swap is left pending in an active state alone (R119). -/
theorem mapSwapRequest_mapSafe (safe : MapSafe s) : MapSafe (mapSwapRequest tag body s) := by
  unfold mapSwapRequest
  split
  · split
    · exact refuse_mapSafe _ _ _ safe
    · rename_i i _
      dsimp only
      split_ifs with pending unchecked
      iterate 2 exact refuse_mapSafe _ _ _ safe
      refine ack_mapSafe _ _ _
        (safe.put (safe.unchecked idle) i ((safe.sound i).swap (not_not.mp unchecked) _) fun waits stopped => ?_)
      rw [inactive_of_eq stopped] at waits
      cases waits
  · exact refuse_mapSafe _ _ _ safe

/-- SAMPLE takes the place of an idle service, which is no MAP COMMIT (R75). -/
theorem sampleRequest_mapSafe (safe : MapSafe s) : MapSafe (sampleRequest tag body s) := by
  unfold sampleRequest
  split_ifs
  · exact refuse_mapSafe _ _ _ safe
  · split
    · exact refuse_mapSafe _ _ _ safe
    · exact safe.follow (by constructor <;> simp [idle])

/-- What an accepted CLEAR does before and after ERASE_MAPS reaches the pages as a pass boundary at most (R173). -/
theorem clearActions_mapSafe (actions : Byte) (safe : MapSafe s) : MapSafe (clearActions actions s) := by
  have before := (actIf_keepsPages (actions.getLsbD 0) emptyQueueAction_keepsPages s).trans
    (actIf_keepsPages (actions.getLsbD 1) eraseProgramAction_keepsPages _)
  have job := before.job.trans (safe.unchecked idle)
  have erased := actIf_of (named := actions.getLsbD 2) (safe.follow before)
    (eraseMapsAction_mapSafe job (safe.follow before))
  exact erased.follow (actIf_keepsPages _ restOutputsAction_keepsPages _)

theorem clearOwner_mapSafe (mask : BitVec 16) (actions : Byte) (safe : MapSafe s) :
    MapSafe (clearOwner tag mask actions s) := by
  obtain bad | busy | ⟨-, cleared⟩ := clearOwner_cases tag mask actions s
  · rw [bad]; exact refuse_mapSafe _ _ _ safe
  · rw [busy]; exact refuse_mapSafe _ _ _ safe
  · rw [cleared]
    exact ack_mapSafe _ _ _
      (clearActions_mapSafe (by simpa using idle) actions (safe.follow (clearFlags_keepsPages _ s)))

theorem clearRequest_mapSafe (safe : MapSafe s) : MapSafe (clearRequest tag body s) := by
  unfold clearRequest
  split
  · exact clearOwner_mapSafe _ idle _ _ safe
  · exact refuse_mapSafe _ _ _ safe

end Requests

/-- A request command keeps the pages safe where its owner does with no request in service (R163). -/
theorem serve_mapSafe {kind tag : Byte} {body : List Byte} {lengthOk : Bool} {owner : State → State} {s : State}
    (safe : MapSafe s) (owned : ∀ t, t.lp.service = .idle → MapSafe t → MapSafe (owner t)) :
    MapSafe (serve kind tag body lengthOk owner s) := by
  refine serve_keeps safe (fun _ => safe.follow (by constructor <;> simp)) fun t rest here ready => ?_
  have taken := here.follow (takeRequest_keepsPages t)
  unfold beginService
  split_ifs
  · exact owned _ (by simpa using ready.1) taken
  · exact refuse_mapSafe _ _ _ taken

section Check

variable {s : State} {i : Fin 16} {h : Half}

theorem absorbEntry_mapSafe (due : s.absorbDue = true) (safe : MapSafe s) : MapSafe (absorbEntry i h s) := by
  obtain ⟨live, empty, pending, job, checking, -⟩ := safe
  have more : s.ck.entryCount < 256 := by
    simp only [State.absorbDue, Bool.and_eq_true, decide_eq_true_eq] at due
    exact due.2
  exact ⟨live, empty, pending, job, checking, more⟩

/-- The half under check is the standby half of its page, with no swap pending: its outcome leaves the live half alone
(R114). -/
theorem completeCheck_mapSafe (found : s.ck.job = some (i, h)) (tag : Byte) (expected : BitVec 32)
    (safe : MapSafe s) : MapSafe (completeCheck i h tag expected s) := by
  obtain ⟨rfl, still, -⟩ := safe.job i h found
  have ended : MapSafe { s with ck.job := none, lp.service := .idle } :=
    .of_sound safe.sound (fun i pending => (safe.pending i pending).2) rfl nofun safe.entryCount
  have filled : s.checkOutcome expected ≠ .empty := by unfold State.checkOutcome; split_ifs <;> nofun
  have judged := ended.put rfl i ((safe.sound i).judge still filled s.ck.b.final) fun waits => by
    simp [still] at waits
  refine judged.follow ?_
  unfold completeCheck
  dsimp only
  rw [finishService_eq]
  constructor <;> simp [putPage]

end Check

/-! ## A microsecond -/

/-- The settle of a SAMPLE counts, and a MAP COMMIT stands (R75). -/
theorem advance_keepsPages : KeepsPages advance := by
  intro s
  refine ⟨rfl, rfl, fun tag expected => ?_, .inl ⟨rfl, id⟩⟩
  change s.lp.service.tick = _ ↔ _
  cases s.lp.service <;> simp [Service.tick]

theorem arrive_keepsPages : KeepsPages arrive := by
  intro s
  unfold arrive
  split <;> constructor <;> simp

/-! ## Every command -/

/-- The command answers a next state with its pages safe. -/
def AnswersMapSafe (c : Instr) (s : State) : Prop := ∃ t, exec c s = .next t ∧ MapSafe t

namespace AnswersMapSafe

variable {c : Instr} {s t : State}

theorem of_follow (safe : MapSafe s) (meaning : exec c s = .next t) (most : BoundaryAtMost s t) : AnswersMapSafe c s :=
  ⟨t, meaning, safe.follow most⟩

/-- An event that acts where it is due and else changes nothing (log 1). -/
theorem of_due {due : Prop} {_ : Decidable due} (safe : MapSafe s) (meaning : exec c s = .next (if due then t else s))
    (acts : due → MapSafe t) : AnswersMapSafe c s := by
  refine ⟨_, meaning, ?_⟩
  split_ifs with h
  · exact acts h
  · exact safe

theorem of_due_follow {due : Prop} {_ : Decidable due} (safe : MapSafe s)
    (meaning : exec c s = .next (if due then t else s)) (most : BoundaryAtMost s t) : AnswersMapSafe c s :=
  .of_due safe meaning fun _ => safe.follow most

variable {kind tag : Byte} {body : List Byte} {lengthOk : Bool} {owner : State → State}

theorem of_serve (safe : MapSafe s) (meaning : exec c s = .next (serve kind tag body lengthOk owner s))
    (owned : ∀ t, t.lp.service = .idle → MapSafe t → MapSafe (owner t)) : AnswersMapSafe c s :=
  ⟨_, meaning, serve_mapSafe safe owned⟩

theorem of_keeps (safe : MapSafe s) (meaning : exec c s = .next (serve kind tag body lengthOk owner s))
    (keeps : KeepsPages owner) : AnswersMapSafe c s :=
  .of_serve safe meaning fun t _ there => there.follow (keeps t)

end AnswersMapSafe

/-- The power-on values are those of the reset state, whatever the pins (R183). -/
theorem powerOnReset_mapSafe (s : State) : MapSafe (powerOnReset s) := by
  obtain ⟨live, empty, pending, job, checking, entryCount⟩ := mapSafe_reset
  exact ⟨live, empty, pending, job, checking, entryCount⟩

section Events

variable {s : State} (safe : MapSafe s)

include safe

theorem unknownKind_answersMapSafe (kind tag : Byte) (body : List Byte) :
    AnswersMapSafe (.unknownKind kind tag body) s := by
  refine ⟨_, rfl, ?_⟩
  split_ifs
  · exact safe
  · exact serve_mapSafe safe fun _ _ => refuse_mapSafe _ _ _

theorem frameComplete_answersMapSafe (chk : Byte) : AnswersMapSafe (.frameComplete chk) s := by
  refine .of_follow safe rfl ?_
  split <;> constructor <;> simp

theorem framingError_answersMapSafe : AnswersMapSafe .framingError s := by
  refine .of_follow safe rfl ?_
  split_ifs <;> constructor <;> simp

theorem replyByteSent_answersMapSafe : AnswersMapSafe .replyByteSent s := by
  refine .of_follow safe rfl ?_
  split
  · split_ifs
    · exact cutReply_keepsPages _ s
    all_goals constructor <;> simp
  · exact .refl s

theorem replySent_answersMapSafe : AnswersMapSafe .replySent s := by
  refine .of_follow safe rfl ?_
  split
  · split_ifs
    · exact cutReply_keepsPages _ s
    · exact endReply_keepsPages _ s
    · exact .refl s
  · exact .refl s

theorem holdnRelease_answersMapSafe : AnswersMapSafe .holdnRelease s := by
  refine .of_follow safe rfl ?_
  split
  · split_ifs <;> constructor <;> simp
  · exact .refl s

theorem conversionEnd_answersMapSafe : AnswersMapSafe .conversionEnd s := by
  refine .of_follow safe rfl ?_
  split
  · split_ifs
    · exact endConversion_keepsPages _ s
    · exact .refl s
  · exact .refl s

/-- A SAMPLE that goes on from its settle is no MAP COMMIT before or after (R75). -/
theorem sampleSettleExpiry_answersMapSafe : AnswersMapSafe .sampleSettleExpiry s := by
  refine .of_follow safe rfl ?_
  split
  · rename_i settling
    constructor <;> simp [settling]
  · exact .refl s

theorem unitBAbsorb_answersMapSafe : AnswersMapSafe .unitBAbsorb s := by
  refine ⟨_, rfl, ?_⟩
  split
  · split_ifs with due
    · exact absorbEntry_mapSafe due safe
    · exact safe
  · exact safe

theorem mapCommitCompletion_answersMapSafe : AnswersMapSafe .mapCommitCompletion s := by
  refine ⟨_, rfl, ?_⟩
  split
  · rename_i found _
    split_ifs
    · exact completeCheck_mapSafe found _ _ safe
    · exact safe
  · exact safe

/-- Every command: the requests by their owners, the events by what they do where due. -/
theorem exec_answersMapSafe (c : Instr) : AnswersMapSafe c s := by
  cases c with
  | identify tag body => exact .of_keeps safe rfl (ack_keepsPages _ _ _)
  | status tag body => exact .of_keeps safe rfl fun t => ack_keepsPages _ _ _ t
  | clear tag body => exact .of_serve safe rfl fun _ => clearRequest_mapSafe tag body
  | emptyQueue tag mask => exact .of_serve safe rfl fun _ idle => clearOwner_mapSafe tag idle mask _
  | eraseProgram tag mask => exact .of_serve safe rfl fun _ idle => clearOwner_mapSafe tag idle mask _
  | eraseMaps tag mask => exact .of_serve safe rfl fun _ idle => clearOwner_mapSafe tag idle mask _
  | restOutputs tag mask => exact .of_serve safe rfl fun _ idle => clearOwner_mapSafe tag idle mask _
  | attentionSet tag body => exact .of_keeps safe rfl (attentionSetRequest_keepsPages tag body)
  | reset tag body => exact .of_keeps safe rfl (ack_keepsPages _ _ _)
  | programLoad tag body => exact .of_keeps safe rfl (programLoadRequest_keepsPages tag body)
  | programTrim tag body => exact .of_keeps safe rfl (programTrimRequest_keepsPages tag body)
  | programRead tag body => exact .of_keeps safe rfl (programReadRequest_keepsPages tag body)
  | triggerSet tag body => exact .of_keeps safe rfl (triggerSetRequest_keepsPages tag body)
  | outputSet tag body => exact .of_keeps safe rfl (outputSetRequest_keepsPages tag body)
  | arm tag body => exact .of_keeps safe rfl (armRequest_keepsPages tag body)
  | stop tag body => exact .of_keeps safe rfl (stopRequest_keepsPages tag)
  | resume tag body => exact .of_keeps safe rfl (resumeRequest_keepsPages tag)
  | sample tag body => exact .of_serve safe rfl fun _ => sampleRequest_mapSafe tag body
  | profileSet tag body => exact .of_keeps safe rfl (profileSetRequest_keepsPages tag body)
  | profileRead tag body => exact .of_keeps safe rfl (profileReadRequest_keepsPages tag body)
  | substituteSet tag body => exact .of_keeps safe rfl (substituteSetRequest_keepsPages tag body)
  | mapLoad tag body => exact .of_serve safe rfl fun _ => mapLoadRequest_mapSafe tag body
  | mapCommit tag body => exact .of_serve safe rfl fun _ _ => mapCommitRequest_mapSafe tag body
  | mapSwap tag body => exact .of_serve safe rfl fun _ => mapSwapRequest_mapSafe tag body
  | mapRead tag body => exact .of_keeps safe rfl (mapReadRequest_keepsPages tag body)
  | checkSet tag body => exact .of_keeps safe rfl (checkSetRequest_keepsPages tag body)
  | drain tag body => exact .of_keeps safe rfl (drainRequest_keepsPages tag body)
  | unknownKind kind tag body => exact unknownKind_answersMapSafe safe kind tag body
  | frameComplete chk => exact frameComplete_answersMapSafe safe chk
  | lenError len => exact .of_due_follow safe rfl (by constructor <;> simp)
  | gapTimeout => exact .of_follow safe rfl (by constructor <;> simp)
  | framingError => exact framingError_answersMapSafe safe
  | linkBreak =>
    have marked : BoundaryAtMost s (breakPort s) := by constructor <;> simp [breakPort]
    exact .of_due_follow safe rfl (marked.trans (breakReply_keepsPages _))
  | breakEnd => exact .of_due_follow safe rfl (by constructor <;> simp)
  | replySent => exact replySent_answersMapSafe safe
  | holdnRelease => exact holdnRelease_answersMapSafe safe
  | powerOnReset => exact ⟨_, rfl, powerOnReset_mapSafe s⟩
  | settleExpiry => exact .of_due_follow safe rfl (expireSettle_keepsPages s)
  | stepTimerExpiry => exact .of_due_follow safe rfl (expireStepTimer_keepsPages s)
  | pacerExpiry => exact .of_due_follow safe rfl (expirePacer_keepsPages s)
  | conversionEnd => exact conversionEnd_answersMapSafe safe
  | monitorIntervalExpiry => exact .of_due_follow safe rfl (by constructor <;> simp)
  | sampleSettleExpiry => exact sampleSettleExpiry_answersMapSafe safe
  | unitBAbsorb => exact unitBAbsorb_answersMapSafe safe
  | mapCommitCompletion => exact mapCommitCompletion_answersMapSafe safe
  | trigEdge =>
    have kept : BoundaryAtMost s (keepLineSample s) := by constructor <;> simp
    exact .of_due_follow safe rfl (kept.trans (edgeReport_keepsPages _))
  | patternEvent => exact .of_due_follow safe rfl (reportPattern_keepsPages s)
  | byteReceived byte => exact .of_follow safe rfl (by constructor <;> simp)
  | replyByteSent => exact replyByteSent_answersMapSafe safe
  | comparatorSample => exact .of_due_follow safe rfl (samplePattern_keepsPages s)
  | lineWatcherSample => exact .of_due_follow safe rfl (sampleLine_keepsPages s)

/-! ## Every step -/

/-- A microsecond leaves the pages and the job of Unit B; with RSTN low the part is at its power-on values (R183). -/
theorem tick_mapSafe : MapSafe (tick s) := by
  have advanced := (safe.follow (arrive_keepsPages s)).follow (advance_keepsPages _)
  unfold tick
  dsimp only
  split_ifs
  · exact advanced.follow (by constructor <;> simp)
  · exact (powerOnReset_mapSafe (arrive s)).follow (by constructor <;> simp)

theorem idle_mapSafe {t : State} (idles : idle s = .next t) : MapSafe t := by
  unfold idle at idles
  split at idles
  · rename_i c _
    obtain ⟨u, next, kept⟩ := exec_answersMapSafe safe c
    cases next.symm.trans idles
    exact kept
  · cases idles
    exact tick_mapSafe safe

end Events

/-- Settles O55: every command keeps the pages safe (`exec_answersMapSafe`), and so does a microsecond. -/
theorem stepKeepsMapSafe : Obligations.StepKeepsMapSafe := by
  unfold Obligations.StepKeepsMapSafe
  intro s t safe steps
  unfold step at steps
  split at steps
  · rename_i c rest _
    have taken : MapSafe { s with pending := rest } := safe.follow (by constructor <;> simp)
    obtain ⟨u, next, kept⟩ := exec_answersMapSafe taken c
    cases next.symm.trans steps
    exact kept
  · exact idle_mapSafe safe steps

end Sys2Proof.Machine
end

section
/-! PROOFS. The requests of the Translation Map (O26, O27, O29). -/

namespace Sys2Proof.Machine

/-! ## MAP LOAD (R109, R110) -/

section MapLoad

variable {s : State} (tag : Byte) {page start n : Byte} {bytes : List Byte} {i : Fin 16}

theorem mapLoadRequest_badField (bad : 16 ≤ page.toNat ∨ n.toNat = 0 ∨ 32 < n.toNat) :
    mapLoadRequest tag (page :: start :: n :: bytes) s = refuse kindMapLoad tag .badField s := by
  unfold mapLoadRequest
  dsimp only
  cases read : nibble? page with
  | none => rfl
  | some i =>
    have badCount : n.toNat = 0 ∨ 32 < n.toNat := bad.resolve_left fun above => by
      rw [nibble?_none above] at read; cases read
    exact if_pos badCount

variable (page_i : page.toNat = i.val) (least : 1 ≤ n.toNat) (few : n.toNat ≤ 32)

include page_i least few

theorem mapLoadRequest_swapPending (pending : (s.tm.pages.get i).pending = true) :
    mapLoadRequest tag (page :: start :: n :: bytes) s = refuse kindMapLoad tag .swapPending s := by
  have count : ¬ (n.toNat = 0 ∨ 32 < n.toNat) := by omega
  simp only [mapLoadRequest, nibble?_eq page_i, count, pending, if_false, if_true]

theorem mapLoadRequest_range (still : (s.tm.pages.get i).pending = false) (beyond : 256 < start.toNat + n.toNat) :
    mapLoadRequest tag (page :: start :: n :: bytes) s = refuse kindMapLoad tag .range s := by
  have count : ¬ (n.toNat = 0 ∨ 32 < n.toNat) := by omega
  simp only [mapLoadRequest, nibble?_eq page_i, count, still, Config.halfEntries, beyond, Bool.false_eq_true, if_false,
    if_true]

theorem mapLoadRequest_loads (still : (s.tm.pages.get i).pending = false) (within : start.toNat + n.toNat ≤ 256) :
    mapLoadRequest tag (page :: start :: n :: bytes) s =
      ack kindMapLoad tag [page, (s.tm.pages.get i).standby.byte, 1]
        (putPage i ((s.tm.pages.get i).load start.toNat (words16 bytes)) s) := by
  have count : ¬ (n.toNat = 0 ∨ 32 < n.toNat) := by omega
  have room : ¬ 256 < start.toNat + n.toNat := by omega
  simp only [mapLoadRequest, nibble?_eq page_i, count, still, Config.halfEntries, room, Bool.false_eq_true, if_false]
  rfl

end MapLoad

/-- A load writes half B of a page whose half A is live (R105, R110). -/
theorem load_live_a {pg : Page} (live : pg.live = .a) (start : Nat) (values : List Word16) :
    pg.load start values =
      { pg with entriesB := writeFrom (pg.entries pg.standby) start values, stateB := .loading } := by
  cases pg; cases live; rfl

/-- A load writes half A of a page whose half B is live (R105, R110). -/
theorem load_live_b {pg : Page} (live : pg.live = .b) (start : Nat) (values : List Word16) :
    pg.load start values =
      { pg with entriesA := writeFrom (pg.entries pg.standby) start values, stateA := .loading } := by
  cases pg; cases live; rfl

/-- Settles O26: MAP LOAD by its three checks in order, and the table it writes into the standby half. -/
theorem mapLoadWritesTheStandbyHalf : Obligations.MapLoadWritesTheStandbyHalf := by
  unfold Obligations.MapLoadWritesTheStandbyHalf
  intro s tag page start n bytes rest ready length
  have meaning : exec (.mapLoad tag (page :: start :: n :: bytes)) s =
      .next (mapLoadRequest tag (page :: start :: n :: bytes) (s.awaiting rest)) :=
    owner_serves ready rfl (decide_eq_true length)
  rw [meaning]
  refine ⟨fun bad => congrArg _ (mapLoadRequest_badField tag bad), fun i page_i least few => ?_⟩
  intro pg
  refine ⟨fun pending => ?_, fun still beyond => ?_, fun still within =>
    ⟨writeFrom (pg.entries pg.standby) start.toNat (words16 bytes), ?_, fun k => ⟨?_, ?_⟩⟩⟩
  · exact congrArg _ (mapLoadRequest_swapPending (s := s.awaiting rest) tag page_i least few pending)
  · exact congrArg _ (mapLoadRequest_range (s := s.awaiting rest) tag page_i least few still beyond)
  · have loads := mapLoadRequest_loads (s := s.awaiting rest) (bytes := bytes) tag page_i least few still within
    rw [loads, show (s.awaiting rest).tm.pages.get i = pg from rfl]
    cases live : pg.live with
    | a => rw [load_live_a live, live]; rfl
    | b => rw [load_live_b live, live]; rfl
  · rintro ⟨low, -⟩ b0 b1 byte0 byte1
    exact get_writeFrom_words16 _ k low byte0 byte1
  · exact get_writeFrom_words16_outside _ k length

/-! ## MAP COMMIT (R112, R113) -/

section MapCommit

variable {s : State} (tag : Byte) {page : Byte} (b1 b2 b3 b4 : Byte) {i : Fin 16}

theorem mapCommitRequest_badField (above : 16 ≤ page.toNat) :
    mapCommitRequest tag [page, b1, b2, b3, b4] s = refuse kindMapCommit tag .badField s := by
  simp only [mapCommitRequest, nibble?_none above]

variable (page_i : page.toNat = i.val)

include page_i

theorem mapCommitRequest_swapPending (pending : (s.tm.pages.get i).pending = true) :
    mapCommitRequest tag [page, b1, b2, b3, b4] s = refuse kindMapCommit tag .swapPending s := by
  simp only [mapCommitRequest, nibble?_eq page_i, pending, if_true]

variable (still : (s.tm.pages.get i).pending = false)

include still

theorem mapCommitRequest_emptyHalf (empty : (s.tm.pages.get i).state (s.tm.pages.get i).standby = .empty) :
    mapCommitRequest tag [page, b1, b2, b3, b4] s = refuse kindMapCommit tag .emptyHalf s := by
  simp only [mapCommitRequest, nibble?_eq page_i, still, empty, Bool.false_eq_true, if_false, if_true]

theorem mapCommitRequest_begins (filled : (s.tm.pages.get i).state (s.tm.pages.get i).standby ≠ .empty) :
    mapCommitRequest tag [page, b1, b2, b3, b4] s =
      beginCheck tag i (BitVec.ofNat 32 (num32 b1 b2 b3 b4)) s := by
  simp only [mapCommitRequest, nibble?_eq page_i, still, filled, Bool.false_eq_true, if_false]

end MapCommit

/-- Settles O27: MAP COMMIT by its three checks in order, and the check it begins. -/
theorem mapCommitBeginsTheCheck : Obligations.MapCommitBeginsTheCheck := by
  unfold Obligations.MapCommitBeginsTheCheck
  intro s tag page b1 b2 b3 b4 rest ready
  have meaning : exec (.mapCommit tag [page, b1, b2, b3, b4]) s =
      .next (mapCommitRequest tag [page, b1, b2, b3, b4] (s.awaiting rest)) :=
    owner_serves ready rfl rfl
  rw [meaning]
  refine ⟨fun above => congrArg _ (mapCommitRequest_badField tag b1 b2 b3 b4 above),
    fun i page_i => ?_⟩
  intro pg
  refine ⟨fun pending => ?_, fun still empty => ?_, fun still filled => ?_⟩
  · exact congrArg _ (mapCommitRequest_swapPending (s := s.awaiting rest) tag b1 b2 b3 b4 page_i pending)
  · exact congrArg _ (mapCommitRequest_emptyHalf (s := s.awaiting rest) tag b1 b2 b3 b4 page_i still empty)
  · exact congrArg _ (mapCommitRequest_begins (s := s.awaiting rest) tag b1 b2 b3 b4 page_i still filled)

/-! ## MAP SWAP (R117 to R119) -/

section MapSwap

variable {s : State} (tag : Byte) {page : Byte} {i : Fin 16}

theorem mapSwapRequest_badField (above : 16 ≤ page.toNat) :
    mapSwapRequest tag [page] s = refuse kindMapSwap tag .badField s := by
  simp only [mapSwapRequest, nibble?_none above]

variable (page_i : page.toNat = i.val)

include page_i

theorem mapSwapRequest_swapPending (pending : (s.tm.pages.get i).pending = true) :
    mapSwapRequest tag [page] s = refuse kindMapSwap tag .swapPending s := by
  simp only [mapSwapRequest, nibble?_eq page_i, pending, if_true]

variable (still : (s.tm.pages.get i).pending = false)

include still

theorem mapSwapRequest_notChecked (unchecked : (s.tm.pages.get i).state (s.tm.pages.get i).standby ≠ .checked) :
    mapSwapRequest tag [page] s = refuse kindMapSwap tag .notChecked s := by
  simp [mapSwapRequest, nibble?_eq page_i, still, unchecked]

theorem mapSwapRequest_swaps (checked : (s.tm.pages.get i).state (s.tm.pages.get i).standby = .checked) :
    mapSwapRequest tag [page] s =
      ack kindMapSwap tag [page, markByte s.active, ((s.tm.pages.get i).swap s.active).live.byte]
        (putPage i ((s.tm.pages.get i).swap s.active) s) := by
  simp [mapSwapRequest, nibble?_eq page_i, still, checked]

end MapSwap

/-- A swap in STOPPED flips the page at once (R118). -/
theorem swap_stopped {pg : Page} (still : pg.pending = false) :
    pg.swap false = { pg with live := pg.standby, lastResidue := 0 } := by
  simp [Page.swap, Page.flip, Page.standby, still]

/-- Settles O29: MAP SWAP by its three checks in order, and by whether a run is active. -/
theorem mapSwapFlipsOrWaits : Obligations.MapSwapFlipsOrWaits := by
  unfold Obligations.MapSwapFlipsOrWaits
  intro s tag page rest ready
  have meaning : exec (.mapSwap tag [page]) s = .next (mapSwapRequest tag [page] (s.awaiting rest)) :=
    owner_serves ready rfl rfl
  rw [meaning]
  refine ⟨fun above => congrArg _ (mapSwapRequest_badField tag above), fun i page_i => ?_⟩
  intro pg
  refine ⟨fun pending => ?_, fun still unchecked => ?_, fun still checked stopped => ?_,
    fun still checked running => ?_⟩
  · exact congrArg _ (mapSwapRequest_swapPending (s := s.awaiting rest) tag page_i pending)
  · exact congrArg _ (mapSwapRequest_notChecked (s := s.awaiting rest) tag page_i still unchecked)
  · have idle : (s.awaiting rest).active = false := inactive_of_eq stopped
    rw [mapSwapRequest_swaps (s := s.awaiting rest) tag page_i still checked, idle,
      show (s.awaiting rest).tm.pages.get i = pg from rfl, swap_stopped still]
    rfl
  · have active : (s.awaiting rest).active = true := active_of_ne running
    rw [mapSwapRequest_swaps (s := s.awaiting rest) tag page_i still checked, active]
    rfl

end Sys2Proof.Machine
end

section
/-! PROOFS. The residue of a check unit: one bit, one word, and what stays within the width (O50). -/

namespace Sys2Proof.Machine

/-! ## Residues bit by bit -/

theorem onesOf_getLsbD {w : Nat} (fits : w ≤ 32) (k : Nat) : (onesOf w).getLsbD k = decide (k < w) := by
  rw [onesOf, BitVec.getLsbD_ofNat, Nat.testBit_two_pow_sub_one]
  by_cases inside : k < w
  · simp [inside, inside.trans_le fits]
  · simp [inside]

theorem onesOf_toNat {w : Nat} (fits : w ≤ 32) : (onesOf w).toNat = 2 ^ w - 1 := by
  have atMost : 2 ^ w ≤ 2 ^ 32 := Nat.pow_le_pow_right (by decide) fits
  rw [onesOf, BitVec.toNat_ofNat, Nat.mod_eq_of_lt (by omega)]

/-- A number below `2 ^ w` has no bit from `w` on. -/
theorem getLsbD_above {r : BitVec 32} {w k : Nat} (within : r.toNat < 2 ^ w) (above : w ≤ k) : r.getLsbD k = false :=
  Nat.testBit_lt_two_pow (within.trans_le (Nat.pow_le_pow_right (by decide) above))

/-! ## One bit and one word -/

section Absorb

variable {c : CheckConfig} (valid : c.valid)

include valid

/-- The three steps of R126, each on its own bit. -/
theorem absorbBit_getLsbD (r : BitVec 32) (b : Bool) {k : Nat} (inside : k < c.width) :
    (absorbBit c r b).getLsbD k =
      Bool.xor (if k = 0 then false else r.getLsbD (k - 1))
        (Bool.xor b (r.getLsbD (c.width - 1)) && c.polynomial.getLsbD k) := by
  obtain ⟨-, fits, -, -⟩ := valid
  have shifted : ((r <<< 1) &&& onesOf c.width).getLsbD k = if k = 0 then false else r.getLsbD (k - 1) := by
    rw [BitVec.getLsbD_and, onesOf_getLsbD fits, BitVec.getLsbD_shiftLeft]
    by_cases low : k = 0
    · simp [low]
    · simp [low, inside, inside.trans_le fits]
  unfold absorbBit
  cases Bool.xor b (r.getLsbD (c.width - 1)) with
  | true => simpa using congrArg (Bool.xor · (c.polynomial.getLsbD k)) shifted
  | false => simpa using shifted

theorem absorbBit_within (r : BitVec 32) (b : Bool) : (absorbBit c r b).toNat < 2 ^ c.width := by
  obtain ⟨-, fits, -, polynomial⟩ := valid
  have shifted : ((r <<< 1) &&& onesOf c.width).toNat < 2 ^ c.width := by
    rw [BitVec.toNat_and, onesOf_toNat fits]
    exact Nat.and_lt_two_pow _ (Nat.sub_one_lt (Nat.two_pow_pos _).ne')
  unfold absorbBit
  dsimp only
  split_ifs
  · rw [BitVec.toNat_xor]; exact Nat.xor_lt_two_pow shifted polynomial
  · exact shifted

theorem absorbWord_within {r : BitVec 32} (within : r.toNat < 2 ^ c.width) (w : Word16) :
    (absorbWord c r w).toNat < 2 ^ c.width :=
  List.foldlRecOn (motive := fun r : BitVec 32 => r.toNat < 2 ^ c.width) _ _ within
    fun r _ b _ => absorbBit_within valid r b

theorem initialResidue_within : c.initialResidue.toNat < 2 ^ c.width := by
  obtain ⟨-, fits, -, -⟩ := valid
  have positive := Nat.two_pow_pos c.width
  unfold CheckConfig.initialResidue
  split
  · rw [onesOf_toNat fits]; omega
  · exact positive

end Absorb

/-- MSB-first, a word is taken from bit 15 down (R127). -/
theorem absorbWord_msbFirst {c : CheckConfig} (order : c.order = .msbFirst) (r : BitVec 32) (w : Word16) :
    absorbWord c r w =
      [15, 14, 13, 12, 11, 10, 9, 8, 7, 6, 5, 4, 3, 2, 1, 0].foldl (fun x k => absorbBit c x (w.getLsbD k)) r := by
  simp only [absorbWord, CheckConfig.bitsOf, order, ← List.map_reverse, List.foldl_map]
  rfl

/-- LSB-first, a word is taken from bit 0 up (R127). -/
theorem absorbWord_lsbFirst {c : CheckConfig} (order : c.order = .lsbFirst) (r : BitVec 32) (w : Word16) :
    absorbWord c r w =
      [0, 1, 2, 3, 4, 5, 6, 7, 8, 9, 10, 11, 12, 13, 14, 15].foldl (fun x k => absorbBit c x (w.getLsbD k)) r := by
  simp only [absorbWord, CheckConfig.bitsOf, order, List.foldl_map]
  rfl

/-! ## The final value -/

theorem final_getLsbD {u : CheckUnit} (fits : u.cfg.width ≤ 32) (k : Nat) :
    u.final.getLsbD k = Bool.xor (u.cfg.invert && decide (k < u.cfg.width)) (u.residue.getLsbD k) := by
  unfold CheckUnit.final
  cases u.cfg.invert with
  | true => simp [onesOf_getLsbD fits, Bool.xor_comm]
  | false => simp

/-- Settles O50: the bit by `absorbBit_getLsbD`, the word by its order, the final value bit by bit. -/
theorem residueBitAndWord : Obligations.ResidueBitAndWord := by
  unfold Obligations.ResidueBitAndWord
  refine ⟨fun c r b valid _ => ?_, fun c r w => ?_, fun u valid within => ⟨fun k inside => ?_, fun k above => ?_⟩⟩
  · exact ⟨absorbBit_within valid r b, fun k inside => absorbBit_getLsbD valid r b inside⟩
  · exact ⟨fun order => absorbWord_msbFirst order r w, fun order => absorbWord_lsbFirst order r w⟩
  all_goals obtain ⟨-, fits, -, -⟩ := valid
  · rw [final_getLsbD fits, decide_eq_true inside, Bool.and_true]
  · rw [final_getLsbD fits, decide_eq_false (Nat.not_lt.mpr above), getLsbD_above within above, Bool.and_false,
      Bool.xor_false]

end Sys2Proof.Machine
end

section
/-! PROOFS. What a run does to the check units: Unit A is loaded and absorbs, Unit B and its check stand. -/

namespace Sys2Proof.Machine

/-- A unit within its bounds: its configuration that of TABLE 7.1, its residue within the width (R125, R128). -/
structure CheckUnit.Fits (u : CheckUnit) : Prop where
  valid : u.cfg.valid
  within : u.residue.toNat < 2 ^ u.cfg.width

/-- The units that loads and absorptions make of one, in any order and number (R127, R131). -/
inductive CheckUnit.Reaches (u : CheckUnit) : CheckUnit → Prop
  | refl : u.Reaches u
  | load {v : CheckUnit} (before : u.Reaches v) : u.Reaches v.load
  | absorb {v : CheckUnit} (before : u.Reaches v) (w : Word16) : u.Reaches (v.absorb w)

section Units

variable {u v w : CheckUnit}

@[simp] theorem reaches_self : u.Reaches u := .refl

@[simp] theorem reaches_load : u.Reaches u.load := .load .refl

@[simp] theorem reaches_absorb (x : Word16) : u.Reaches (u.absorb x) := .absorb .refl x

theorem CheckUnit.Reaches.trans (first : u.Reaches v) (second : v.Reaches w) : u.Reaches w := by
  induction second with
  | refl => exact first
  | load _ before => exact .load before
  | absorb _ x before => exact .absorb before x

theorem CheckUnit.Fits.load (fits : u.Fits) : u.load.Fits := ⟨fits.valid, initialResidue_within fits.valid⟩

theorem CheckUnit.Fits.absorb (fits : u.Fits) (x : Word16) : (u.absorb x).Fits :=
  ⟨fits.valid, absorbWord_within fits.valid fits.within x⟩

theorem CheckUnit.Fits.reached (fits : u.Fits) (reaches : u.Reaches v) : v.Fits := by
  induction reaches with
  | refl => exact fits
  | load _ before => exact before.load
  | absorb _ x before => exact before.absorb x

end Units

/-- Unit A is loaded and absorbs; Unit B and its job stand, and so does the MAP COMMIT in service. -/
structure UnitsFollow (s t : State) : Prop where
  unitA : s.ck.a.Reaches t.ck.a
  unitB : t.ck.b = s.ck.b
  job : t.ck.job = s.ck.job
  commit : ∀ tag expected, s.lp.service = .commit tag expected → t.lp.service = .commit tag expected

theorem UnitsFollow.refl (s : State) : UnitsFollow s s := by constructor <;> simp

theorem UnitsFollow.trans {s t u : State} (first : UnitsFollow s t) (second : UnitsFollow t u) : UnitsFollow s u where
  unitA := first.unitA.trans second.unitA
  unitB := second.unitB.trans first.unitB
  job := second.job.trans first.job
  commit tag expected := second.commit tag expected ∘ first.commit tag expected

/-- An operation that only loads Unit A and lets it absorb. -/
def KeepsUnits (operation : State → State) : Prop := ∀ s, UnitsFollow s (operation s)

/-! ## Steps, passes and stops: Unit A is loaded at a pass start and absorbs at an append (R131, R132) -/

theorem passStart_keepsUnits : KeepsUnits passStart := by
  intro s
  have loaded : (passStart s).ck.a = s.ck.a.load := by simp [passStart]
  constructor <;> simp [loaded]

theorem startTrigger_keepsUnits : KeepsUnits startTrigger := by
  intro s
  have loaded : (startTrigger s).ck.a = s.ck.a.load := by simp [startTrigger, passStart]
  constructor <;> simp [loaded]

theorem passContinue_keepsUnits (stopCause : Bool) : KeepsUnits (passContinue stopCause) := by
  intro s
  unfold passContinue
  split_ifs
  iterate 2 constructor <;> simp
  · exact passStart_keepsUnits s
  · constructor <;> simp

theorem passEnd_keepsUnits (stopCause : Bool) : KeepsUnits (passEnd stopCause) := by
  intro s
  have closed : UnitsFollow s (boundary (raise .passEnd (appendMarker .complete s))) := by constructor <;> simp
  exact closed.trans (passContinue_keepsUnits stopCause _)

theorem afterAppend_keepsUnits (stopCause : Bool) : KeepsUnits (afterAppend stopCause) := by
  intro s
  unfold afterAppend
  split_ifs
  · constructor <;> simp
  · exact passEnd_keepsUnits stopCause s
  iterate 2 constructor <;> simp

theorem appendSample_keepsUnits (r : SampleRecord) : KeepsUnits (appendSample r) := by
  intro s; constructor <;> simp [appendSample_unitA]

theorem offerSample_keepsUnits (o : Offer) : KeepsUnits (offerSample o) := by
  intro s
  unfold offerSample
  split_ifs
  · constructor <;> simp
  · exact (appendSample_keepsUnits o.record s).trans (afterAppend_keepsUnits o.stopCause _)

theorem releaseHeld_keepsUnits : KeepsUnits releaseHeld := by
  intro s
  unfold releaseHeld
  split
  · rename_i o _
    split_ifs
    · have discarded : UnitsFollow s (discardHeld s) := by constructor <;> simp
      exact (discarded.trans (appendSample_keepsUnits o.record _)).trans (afterAppend_keepsUnits o.stopCause _)
    · exact .refl s
  · exact .refl s

/-! ## Reports, an accepted ARM, STOP and the reset -/

theorem edgeReport_keepsUnits : KeepsUnits edgeReport := by
  intro s
  obtain same | ⟨-, -, starts⟩ | ⟨-, -, releases⟩ | ⟨-, -, -, stops⟩ := edgeReport_cases s
  · rw [same]; exact .refl s
  · rw [starts]; exact startTrigger_keepsUnits s
  · rw [releases]; constructor <;> simp
  · rw [stops]; constructor <;> simp

theorem patternReport_keepsUnits : KeepsUnits patternReport := by
  intro s
  obtain same | ⟨-, -, starts⟩ | ⟨-, -, -, stops⟩ := patternReport_cases s
  · rw [same]; exact .refl s
  · rw [starts]; exact startTrigger_keepsUnits s
  · rw [stops]; constructor <;> simp

theorem stopRun_keepsUnits : KeepsUnits stopRun := by
  intro s
  obtain ⟨-, same⟩ | ⟨-, ends⟩ | ⟨-, -, stops⟩ := stopRun_cases s
  · rw [same]; exact .refl s
  · rw [ends]; constructor <;> simp
  · rw [stops]; constructor <;> simp

theorem armRun_keepsUnits (f : ArmFields) : KeepsUnits (armRun f) := by
  intro s
  have prepared : UnitsFollow s (s.armedBy f) := by constructor <;> simp [State.armedBy]
  cases start : f.ctx.start with
  | now => rw [armRun_now start]; exact prepared.trans (startTrigger_keepsUnits _)
  | level => rw [armRun_level start]; exact prepared.trans (by constructor <;> simp [startMonitor])
  | line => rw [armRun_waits (.inl start)]; exact prepared
  | pattern => rw [armRun_waits (.inr start)]; exact prepared

/-- A reset loads Unit A (R137). -/
theorem resetEffect_keepsUnits : KeepsUnits resetEffect := by
  intro s
  unfold resetEffect
  split_ifs <;> constructor <;> simp [resetBlocks, resetStop]

/-! ## The events of a run, of the Converter and of the line -/

theorem expireSettle_keepsUnits : KeepsUnits expireSettle := by
  intro s
  have held : UnitsFollow s (holdReading s) := by constructor <;> simp [holdReading]
  unfold expireSettle
  dsimp only
  cases s.entry.source with
  | analog => exact held.trans (by constructor <;> simp)
  | digital => exact held.trans (offerSample_keepsUnits _ _)

theorem expireStepTimer_keepsUnits : KeepsUnits expireStepTimer := by
  intro s
  unfold expireStepTimer
  split_ifs <;> constructor <;> simp

/-- An expiry of the pacer that starts no pass leaves the check units alone (R36). -/
theorem expirePacer_keepsUnits : KeepsUnits expirePacer := by
  intro s
  have next : UnitsFollow s { s with seq.pacer := some s.seq.ctx.passInterval.toNat } := by constructor <;> simp
  unfold expirePacer
  dsimp only
  split
  · exact next.trans (passStart_keepsUnits _)
  all_goals constructor <;> simp [missTick]

theorem reportEdge_keepsUnits : KeepsUnits fun s => edgeReport (keepLineSample s) := by
  intro s
  have kept : UnitsFollow s (keepLineSample s) := by constructor <;> simp
  exact kept.trans (edgeReport_keepsUnits _)

theorem sampleLine_keepsUnits : KeepsUnits sampleLine := by
  intro s
  unfold sampleLine
  split_ifs
  · exact reportEdge_keepsUnits s
  · constructor <;> simp

theorem reportPattern_keepsUnits : KeepsUnits fun s => patternReport (raise .pattern (keepPatternSample s)) := by
  intro s
  have kept : UnitsFollow s (raise .pattern (keepPatternSample s)) := by constructor <;> simp
  exact kept.trans (patternReport_keepsUnits _)

theorem samplePattern_keepsUnits : KeepsUnits samplePattern := by
  intro s
  unfold samplePattern
  split_ifs
  · exact reportPattern_keepsUnits s
  · constructor <;> simp

theorem completeStep_keepsUnits (raw : Nat) (ovr : Bool) : KeepsUnits (completeStep raw ovr) := by
  intro s
  have moved : UnitsFollow s (updateZone raw s) := by
    rw [updateZone_eq]; constructor <;> simp
  exact moved.trans (offerSample_keepsUnits _ _)

theorem completeMonitor_keepsUnits (raw : Nat) : KeepsUnits (completeMonitor raw) := by
  intro s
  have idle : UnitsFollow s { s with tu.monitor := .idle, tu.monitorTimer := none } := by constructor <;> simp
  unfold completeMonitor
  dsimp only
  split_ifs
  iterate 2 constructor <;> simp
  · exact idle.trans (startTrigger_keepsUnits _)
  · exact idle

/-- A SAMPLE that completes was no MAP COMMIT. -/
theorem completeSample_keepsUnits (raw : Nat) (ovr : Bool) : KeepsUnits (completeSample raw ovr) := by
  intro s
  unfold completeSample
  split
  · rename_i converting
    constructor <;> simp [converting]
  · exact .refl s

theorem endConversion_keepsUnits (c : Claim) : KeepsUnits (endConversion c) := by
  intro s
  have idle : UnitsFollow s { s with cv.claim := none } := by constructor <;> simp
  unfold endConversion
  split_ifs
  · constructor <;> simp
  · unfold completeClaim
    dsimp only
    cases c.afterConversion.claimant with
    | step => exact idle.trans (completeStep_keepsUnits _ _ _)
    | monitor => exact idle.trans (completeMonitor_keepsUnits _ _)
    | sample => exact idle.trans (completeSample_keepsUnits _ _ _)

theorem endReply_keepsUnits (r : Transmission) : KeepsUnits (endReply r) := by
  intro s
  have emptied : UnitsFollow s { s with lp.reply := none } := by constructor <;> simp
  unfold endReply
  dsimp only
  split_ifs
  · exact emptied.trans (resetEffect_keepsUnits _)
  · exact emptied

theorem raise_keepsUnits (f : Flag) : KeepsUnits (raise f) := by
  intro s; constructor <;> simp

theorem cutReply_keepsUnits (r : Transmission) : KeepsUnits (cutReply r) := fun s =>
  (endReply_keepsUnits r s).trans (raise_keepsUnits .linkBreak _)

theorem breakReply_keepsUnits : KeepsUnits breakReply := by
  intro s
  unfold breakReply
  split
  · exact raise_keepsUnits .linkBreak s
  · split_ifs
    · exact cutReply_keepsUnits _ s
    · constructor <;> simp

end Sys2Proof.Machine
end

section
/-! PROOFS. Every step keeps the check units within their bounds (O57). -/

namespace Sys2Proof.Machine

/-! ## The invariant, unit by unit -/

namespace ResidueSafe

variable {s t : State}

theorem fitsA (safe : ResidueSafe s) : s.ck.a.Fits := ⟨safe.configA, safe.residueA⟩

/-- With no request in service Unit B checks nothing (R113). -/
theorem unchecked (safe : ResidueSafe s) (idle : s.lp.service = .idle) : s.ck.job = none := by
  by_contra busy
  obtain ⟨tag, expected, commit⟩ := safe.checking (Option.isSome_iff_ne_none.mpr busy)
  cases idle.symm.trans commit

/-- With no job any residue of Unit B will do. -/
theorem of_unchecked (fitsA : s.ck.a.Fits) (validB : s.ck.b.cfg.valid) (job : s.ck.job = none) : ResidueSafe s where
  configA := fitsA.valid
  configB := validB
  residueA := fitsA.within
  residueB busy := by rw [job] at busy; cases busy
  checking busy := by rw [job] at busy; cases busy

/-- With a MAP COMMIT in service both units fit. -/
theorem of_commit {tag : Byte} {expected : BitVec 32} (fitsA : s.ck.a.Fits) (fitsB : s.ck.b.Fits)
    (commit : s.lp.service = .commit tag expected) : ResidueSafe s where
  configA := fitsA.valid
  configB := fitsB.valid
  residueA := fitsA.within
  residueB _ := fitsB.within
  checking _ := ⟨tag, expected, commit⟩

theorem follow (safe : ResidueSafe s) (units : UnitsFollow s t) : ResidueSafe t := by
  obtain ⟨unitA, unitB, job, commit⟩ := units
  obtain ⟨configA, residueA⟩ := safe.fitsA.reached unitA
  refine ⟨configA, unitB ▸ safe.configB, residueA, fun busy => ?_, fun busy => ?_⟩
  · rw [unitB]; exact safe.residueB (job ▸ busy)
  · obtain ⟨tag, expected, here⟩ := safe.checking (job ▸ busy)
    exact ⟨tag, expected, commit tag expected here⟩

end ResidueSafe

/-! ## The requests that leave the check units alone -/

/-- The owners that end in a reply and touch neither the check units nor the service of the port. -/
def quietOwners : List (Byte → List Byte → State → State) :=
  [attentionSetRequest, programLoadRequest, programTrimRequest, programReadRequest, triggerSetRequest,
   outputSetRequest, profileSetRequest, profileReadRequest, substituteSetRequest, mapLoadRequest, mapSwapRequest,
   mapReadRequest]

/-- Each branch of theirs is a reply on a state in which other blocks alone have changed. -/
theorem quietOwners_keepUnits : ∀ owner ∈ quietOwners, ∀ tag body, KeepsUnits (owner tag body) := by
  simp only [quietOwners, List.forall_mem_cons, List.not_mem_nil, false_implies, implies_true, and_true]
  refine ⟨?_, ?_, ?_, ?_, ?_, ?_, ?_, ?_, ?_, ?_, ?_, ?_⟩ <;> intro tag body s
  all_goals
    delta attentionSetRequest programLoadRequest loadProgram programTrimRequest programReadRequest triggerSetRequest
      outputSetRequest outputSetAck profileSetRequest setProfile profileReadRequest substituteSetRequest mapLoadRequest
      mapSwapRequest mapReadRequest putPage
    try dsimp only
    repeat' split
  all_goals constructor <;> simp

/-! ## The requests that act on a run, and CLEAR -/

theorem putReply_keepsUnits (r : Frame) : KeepsUnits (putReply r) := by
  intro s; constructor <;> simp

theorem ack_keepsUnits (kind tag : Byte) (body : List Byte) : KeepsUnits (ack kind tag body) := putReply_keepsUnits _

theorem refuse_keepsUnits (kind tag : Byte) (reason : Reason) : KeepsUnits (refuse kind tag reason) :=
  putReply_keepsUnits _

theorem armRequest_keepsUnits (tag : Byte) (body : List Byte) : KeepsUnits (armRequest tag body) := by
  intro s
  unfold armRequest
  split_ifs
  iterate 2 exact refuse_keepsUnits _ _ _ s
  split
  · exact refuse_keepsUnits _ _ _ s
  · exact (armRun_keepsUnits _ s).trans (ack_keepsUnits _ _ _ _)

theorem stopRequest_keepsUnits (tag : Byte) : KeepsUnits (stopRequest tag) := fun s =>
  (stopRun_keepsUnits s).trans (ack_keepsUnits _ _ _ _)

theorem resumeRequest_keepsUnits (tag : Byte) : KeepsUnits (resumeRequest tag) := by
  intro s; unfold resumeRequest; split_ifs <;> constructor <;> simp

theorem drainRequest_keepsUnits (tag : Byte) (body : List Byte) : KeepsUnits (drainRequest tag body) := by
  intro s
  unfold drainRequest
  split
  · rename_i n
    split_ifs
    · exact refuse_keepsUnits _ _ _ s
    · have removed : UnitsFollow s (removeRecords n.toNat s) := by constructor <;> simp [removeRecords]
      exact (removed.trans (releaseHeld_keepsUnits _)).trans (ack_keepsUnits _ _ _ _)
  · exact refuse_keepsUnits _ _ _ s

theorem actIf_keepsUnits {action : State → State} (named : Bool) (keeps : KeepsUnits action) :
    KeepsUnits (actIf named action) := by
  intro s
  cases named
  · exact .refl s
  · exact keeps s

/-- Of the actions of CLEAR only EMPTY_QUEUE reaches Unit A, by the record it may release (R153, R144). -/
theorem clearActions_keepsUnits (actions : Byte) : KeepsUnits (clearActions actions) := by
  have emptiesQueue : KeepsUnits emptyQueueAction := fun s => by
    have emptied : UnitsFollow s { s with rq.records := [], rq.lossMark := false } := by constructor <;> simp
    exact emptied.trans (releaseHeld_keepsUnits _)
  have erasesProgram : KeepsUnits eraseProgramAction := fun s => by constructor <;> simp
  have erasesMaps : KeepsUnits eraseMapsAction := fun s => by constructor <;> simp
  have restsOutputs : KeepsUnits restOutputsAction := fun s => by constructor <;> simp
  exact fun s => (((actIf_keepsUnits _ emptiesQueue s).trans (actIf_keepsUnits _ erasesProgram _)).trans
    (actIf_keepsUnits _ erasesMaps _)).trans (actIf_keepsUnits _ restsOutputs _)

theorem clearOwner_keepsUnits (tag : Byte) (mask : BitVec 16) (actions : Byte) :
    KeepsUnits (clearOwner tag mask actions) := by
  intro s
  obtain bad | busy | ⟨-, cleared⟩ := clearOwner_cases tag mask actions s
  · rw [bad]; exact refuse_keepsUnits _ _ _ s
  · rw [busy]; exact refuse_keepsUnits _ _ _ s
  · rw [cleared]
    have flagged : UnitsFollow s (clearFlags (mask.setWidth 14) s) := by constructor <;> simp
    exact (flagged.trans (clearActions_keepsUnits actions _)).trans (ack_keepsUnits _ _ _ _)

theorem clearRequest_keepsUnits (tag : Byte) (body : List Byte) : KeepsUnits (clearRequest tag body) := by
  intro s
  unfold clearRequest
  split
  · exact clearOwner_keepsUnits _ _ _ s
  · exact refuse_keepsUnits _ _ _ s

/-! ## CHECK SET, MAP COMMIT and SAMPLE -/

/-- What the reader takes is within TABLE 7.1: checks 3 and 4 of TABLE 7.3. -/
theorem checkConfig?_valid {bytes : List Byte} {cfg : CheckConfig} (read : checkConfig? bytes = some cfg) :
    cfg.valid := by
  unfold checkConfig? at read
  split at read
  · rename_i b0 b1 b2 b3 b4 _ _ _
    simp only [Option.bind_eq_bind, Option.bind_eq_some_iff] at read
    obtain ⟨_, -, _, -, _, -, last⟩ := read
    obtain ⟨⟨narrow, wide, nonzero, below⟩, made⟩ := Option.ite_none_right_eq_some.mp last
    have fits : num32 b1 b2 b3 b4 < 2 ^ 32 := by unfold num32; omega
    have polynomial : (BitVec.ofNat 32 (num32 b1 b2 b3 b4)).toNat = num32 b1 b2 b3 b4 := by
      rw [BitVec.toNat_ofNat, Nat.mod_eq_of_lt fits]
    cases made
    refine ⟨narrow, wide, fun zero => nonzero ?_, polynomial.trans_lt below⟩
    exact polynomial.symm.trans (congrArg BitVec.toNat zero)
  · cases read

section Requests

variable {s : State} (tag : Byte) (body : List Byte)

theorem refuse_residueSafe (kind : Byte) (reason : Reason) (safe : ResidueSafe s) :
    ResidueSafe (refuse kind tag reason s) :=
  safe.follow (refuse_keepsUnits _ _ _ s)

/-- A configuration is set where Unit B checks nothing: its residue, kept, may then lie outside the new width (R129). -/
theorem setCheck_residueSafe (unit : Half) {cfg : CheckConfig} (valid : cfg.valid) (job : s.ck.job = none)
    (safe : ResidueSafe s) : ResidueSafe (setCheck unit cfg s) := by
  cases unit with
  | a => exact .of_unchecked ⟨valid, initialResidue_within valid⟩ safe.configB job
  | b => exact .of_unchecked safe.fitsA valid job

theorem checkSetRequest_residueSafe (idle : s.lp.service = .idle) (safe : ResidueSafe s) :
    ResidueSafe (checkSetRequest tag body s) := by
  unfold checkSetRequest
  split
  · split
    · exact refuse_residueSafe _ _ _ safe
    · split_ifs
      · exact refuse_residueSafe _ _ _ safe
      · split
        · exact refuse_residueSafe _ _ _ safe
        · rename_i read
          exact (setCheck_residueSafe _ (checkConfig?_valid read) (safe.unchecked idle) safe).follow
            (ack_keepsUnits _ _ _ _)
  · exact refuse_residueSafe _ _ _ safe

/-- Unit B is loaded as its check begins (R135). -/
theorem mapCommitRequest_residueSafe (safe : ResidueSafe s) : ResidueSafe (mapCommitRequest tag body s) := by
  unfold mapCommitRequest
  split
  · split
    · exact refuse_residueSafe _ _ _ safe
    · split_ifs
      iterate 2 exact refuse_residueSafe _ _ _ safe
      exact .of_commit safe.fitsA ⟨safe.configB, initialResidue_within safe.configB⟩ rfl
  · exact refuse_residueSafe _ _ _ safe

/-- SAMPLE takes the place of an idle service, under which nothing is checked (R75). -/
theorem sampleRequest_residueSafe (idle : s.lp.service = .idle) (safe : ResidueSafe s) :
    ResidueSafe (sampleRequest tag body s) := by
  unfold sampleRequest
  split_ifs
  · exact refuse_residueSafe _ _ _ safe
  · split
    · exact refuse_residueSafe _ _ _ safe
    · exact safe.follow (by constructor <;> simp [idle])

end Requests

/-- A request command keeps the check units where its owner does with no request in service (R163). -/
theorem serve_residueSafe {kind tag : Byte} {body : List Byte} {lengthOk : Bool} {owner : State → State} {s : State}
    (safe : ResidueSafe s) (owned : ∀ t, t.lp.service = .idle → ResidueSafe t → ResidueSafe (owner t)) :
    ResidueSafe (serve kind tag body lengthOk owner s) := by
  refine serve_keeps safe (fun _ => safe.follow (by constructor <;> simp)) fun t rest here ready => ?_
  have taken : ResidueSafe (takeRequest t) := here.follow (by constructor <;> simp)
  unfold beginService
  split_ifs
  · exact owned _ (by simpa using ready.1) taken
  · exact refuse_residueSafe _ _ _ taken

/-! ## A check in progress (R114, R135) -/

section Check

variable {s : State} {i : Fin 16} {h : Half}

theorem absorbEntry_residueSafe (found : s.ck.job = some (i, h)) (safe : ResidueSafe s) :
    ResidueSafe (absorbEntry i h s) := by
  have busy : s.ck.job.isSome = true := by rw [found]; rfl
  obtain ⟨tag, expected, commit⟩ := safe.checking busy
  exact .of_commit safe.fitsA (.absorb ⟨safe.configB, safe.residueB busy⟩ _) commit

theorem completeCheck_residueSafe (tag : Byte) (expected : BitVec 32) (safe : ResidueSafe s) :
    ResidueSafe (completeCheck i h tag expected s) := by
  have ended : (completeCheck i h tag expected s).ck = { s.ck with job := none } := by simp [completeCheck, putPage]
  exact .of_unchecked (by rw [ended]; exact safe.fitsA) (by rw [ended]; exact safe.configB) (by rw [ended])

end Check

/-- The power-on values are those of the reset state, whatever the pins (R183). -/
theorem powerOnReset_residueSafe (s : State) : ResidueSafe (powerOnReset s) := by
  obtain ⟨configA, configB, residueA, residueB, checking⟩ := residueSafe_reset
  exact ⟨configA, configB, residueA, residueB, checking⟩

/-! ## Every command -/

/-- The command answers a next state with its check units within their bounds. -/
def AnswersResidueSafe (c : Instr) (s : State) : Prop := ∃ t, exec c s = .next t ∧ ResidueSafe t

namespace AnswersResidueSafe

variable {c : Instr} {s t : State} (safe : ResidueSafe s)

include safe

theorem of_follow (meaning : exec c s = .next t) (units : UnitsFollow s t) : AnswersResidueSafe c s :=
  ⟨t, meaning, safe.follow units⟩

/-- An event that acts where it is due and else changes nothing (log 1). -/
theorem of_due {due : Prop} {_ : Decidable due} (meaning : exec c s = .next (if due then t else s))
    (units : UnitsFollow s t) : AnswersResidueSafe c s := by
  refine of_follow safe meaning ?_
  split_ifs
  · exact units
  · exact .refl s

variable {kind tag : Byte} {body : List Byte} {lengthOk : Bool} {owner : State → State}

theorem of_serve (meaning : exec c s = .next (serve kind tag body lengthOk owner s))
    (owned : ∀ t, t.lp.service = .idle → ResidueSafe t → ResidueSafe (owner t)) : AnswersResidueSafe c s :=
  ⟨_, meaning, serve_residueSafe safe owned⟩

theorem of_keeps (meaning : exec c s = .next (serve kind tag body lengthOk owner s)) (keeps : KeepsUnits owner) :
    AnswersResidueSafe c s :=
  of_serve safe meaning fun t _ there => there.follow (keeps t)

theorem of_quiet {request : Byte → List Byte → State → State}
    (meaning : exec c s = .next (serve kind tag body lengthOk (request tag body) s))
    (quiet : request ∈ quietOwners) : AnswersResidueSafe c s :=
  of_keeps safe meaning (quietOwners_keepUnits _ quiet tag body)

end AnswersResidueSafe

section Events

variable {s : State} (safe : ResidueSafe s)

include safe

theorem unknownKind_answersResidueSafe (kind tag : Byte) (body : List Byte) :
    AnswersResidueSafe (.unknownKind kind tag body) s := by
  refine ⟨_, rfl, ?_⟩
  split_ifs
  · exact safe
  · exact serve_residueSafe safe fun _ _ => refuse_residueSafe _ _ _

theorem frameComplete_answersResidueSafe (chk : Byte) : AnswersResidueSafe (.frameComplete chk) s := by
  refine .of_follow safe rfl ?_
  split <;> constructor <;> simp

theorem framingError_answersResidueSafe : AnswersResidueSafe .framingError s := by
  refine .of_follow safe rfl ?_
  split_ifs <;> constructor <;> simp

theorem replyByteSent_answersResidueSafe : AnswersResidueSafe .replyByteSent s := by
  refine .of_follow safe rfl ?_
  split
  · split_ifs
    · exact cutReply_keepsUnits _ s
    all_goals constructor <;> simp
  · exact .refl s

theorem replySent_answersResidueSafe : AnswersResidueSafe .replySent s := by
  refine .of_follow safe rfl ?_
  split
  · split_ifs
    · exact cutReply_keepsUnits _ s
    · exact endReply_keepsUnits _ s
    · exact .refl s
  · exact .refl s

theorem holdnRelease_answersResidueSafe : AnswersResidueSafe .holdnRelease s := by
  refine .of_follow safe rfl ?_
  split
  · split_ifs <;> constructor <;> simp
  · exact .refl s

theorem conversionEnd_answersResidueSafe : AnswersResidueSafe .conversionEnd s := by
  refine .of_follow safe rfl ?_
  split
  · split_ifs
    · exact endConversion_keepsUnits _ s
    · exact .refl s
  · exact .refl s

/-- A SAMPLE that goes on from its settle is no MAP COMMIT (R75). -/
theorem sampleSettleExpiry_answersResidueSafe : AnswersResidueSafe .sampleSettleExpiry s := by
  refine .of_follow safe rfl ?_
  split
  · rename_i settling
    constructor <;> simp [settling]
  · exact .refl s

theorem unitBAbsorb_answersResidueSafe : AnswersResidueSafe .unitBAbsorb s := by
  refine ⟨_, rfl, ?_⟩
  split
  · rename_i found
    split_ifs
    · exact absorbEntry_residueSafe found safe
    · exact safe
  · exact safe

theorem mapCommitCompletion_answersResidueSafe : AnswersResidueSafe .mapCommitCompletion s := by
  refine ⟨_, rfl, ?_⟩
  split
  · split_ifs
    · exact completeCheck_residueSafe _ _ safe
    · exact safe
  · exact safe

/-- Every command: the requests by their owners, the events by what they do where due. -/
theorem exec_answersResidueSafe (c : Instr) : AnswersResidueSafe c s := by
  cases c with
  | identify tag body => exact .of_keeps safe rfl (ack_keepsUnits _ _ _)
  | status tag body => exact .of_keeps safe rfl fun t => ack_keepsUnits _ _ _ t
  | clear tag body => exact .of_keeps safe rfl (clearRequest_keepsUnits tag body)
  | emptyQueue tag mask => exact .of_keeps safe rfl (clearOwner_keepsUnits tag mask _)
  | eraseProgram tag mask => exact .of_keeps safe rfl (clearOwner_keepsUnits tag mask _)
  | eraseMaps tag mask => exact .of_keeps safe rfl (clearOwner_keepsUnits tag mask _)
  | restOutputs tag mask => exact .of_keeps safe rfl (clearOwner_keepsUnits tag mask _)
  | attentionSet tag body => exact .of_quiet safe rfl (by simp [quietOwners])
  | reset tag body => exact .of_keeps safe rfl (ack_keepsUnits _ _ _)
  | programLoad tag body => exact .of_quiet safe rfl (by simp [quietOwners])
  | programTrim tag body => exact .of_quiet safe rfl (by simp [quietOwners])
  | programRead tag body => exact .of_quiet safe rfl (by simp [quietOwners])
  | triggerSet tag body => exact .of_quiet safe rfl (by simp [quietOwners])
  | outputSet tag body => exact .of_quiet safe rfl (by simp [quietOwners])
  | arm tag body => exact .of_keeps safe rfl (armRequest_keepsUnits tag body)
  | stop tag body => exact .of_keeps safe rfl (stopRequest_keepsUnits tag)
  | resume tag body => exact .of_keeps safe rfl (resumeRequest_keepsUnits tag)
  | sample tag body => exact .of_serve safe rfl fun _ => sampleRequest_residueSafe tag body
  | profileSet tag body => exact .of_quiet safe rfl (by simp [quietOwners])
  | profileRead tag body => exact .of_quiet safe rfl (by simp [quietOwners])
  | substituteSet tag body => exact .of_quiet safe rfl (by simp [quietOwners])
  | mapLoad tag body => exact .of_quiet safe rfl (by simp [quietOwners])
  | mapCommit tag body => exact .of_serve safe rfl fun _ _ => mapCommitRequest_residueSafe tag body
  | mapSwap tag body => exact .of_quiet safe rfl (by simp [quietOwners])
  | mapRead tag body => exact .of_quiet safe rfl (by simp [quietOwners])
  | checkSet tag body => exact .of_serve safe rfl fun _ => checkSetRequest_residueSafe tag body
  | drain tag body => exact .of_keeps safe rfl (drainRequest_keepsUnits tag body)
  | unknownKind kind tag body => exact unknownKind_answersResidueSafe safe kind tag body
  | frameComplete chk => exact frameComplete_answersResidueSafe safe chk
  | lenError len => exact .of_due safe rfl (by constructor <;> simp)
  | gapTimeout => exact .of_follow safe rfl (by constructor <;> simp)
  | framingError => exact framingError_answersResidueSafe safe
  | linkBreak =>
    have marked : UnitsFollow s (breakPort s) := by constructor <;> simp [breakPort]
    exact .of_due safe rfl (marked.trans (breakReply_keepsUnits _))
  | breakEnd => exact .of_due safe rfl (by constructor <;> simp)
  | replySent => exact replySent_answersResidueSafe safe
  | holdnRelease => exact holdnRelease_answersResidueSafe safe
  | powerOnReset => exact ⟨_, rfl, powerOnReset_residueSafe s⟩
  | settleExpiry => exact .of_due safe rfl (expireSettle_keepsUnits s)
  | stepTimerExpiry => exact .of_due safe rfl (expireStepTimer_keepsUnits s)
  | pacerExpiry => exact .of_due safe rfl (expirePacer_keepsUnits s)
  | conversionEnd => exact conversionEnd_answersResidueSafe safe
  | monitorIntervalExpiry => exact .of_due safe rfl (by constructor <;> simp)
  | sampleSettleExpiry => exact sampleSettleExpiry_answersResidueSafe safe
  | unitBAbsorb => exact unitBAbsorb_answersResidueSafe safe
  | mapCommitCompletion => exact mapCommitCompletion_answersResidueSafe safe
  | trigEdge => exact .of_due safe rfl (reportEdge_keepsUnits s)
  | patternEvent => exact .of_due safe rfl (reportPattern_keepsUnits s)
  | byteReceived byte => exact .of_follow safe rfl (by constructor <;> simp)
  | replyByteSent => exact replyByteSent_answersResidueSafe safe
  | comparatorSample => exact .of_due safe rfl (samplePattern_keepsUnits s)
  | lineWatcherSample => exact .of_due safe rfl (sampleLine_keepsUnits s)

/-! ## Every step -/

/-- A microsecond lets Unit B's next entry fall due (R135); with RSTN low the part is at its power-on values (R183). -/
theorem tick_residueSafe : ResidueSafe (tick s) := by
  have arrived : UnitsFollow s (arrive s) := by unfold arrive; split <;> constructor <;> simp
  have advances : KeepsUnits advance := fun t => by
    refine ⟨.refl, rfl, rfl, fun tag expected commit => ?_⟩
    simp [advance, LinkPort.tick, commit, Service.tick]
  unfold tick
  dsimp only
  split_ifs
  · exact (safe.follow (arrived.trans (advances _))).follow (by constructor <;> simp)
  · exact (powerOnReset_residueSafe (arrive s)).follow (by constructor <;> simp)

end Events

/-- A property that the commands keep, a microsecond keeps and the queue does not touch is kept by every step. -/
theorem step_keeps {P : State → Prop} {s t : State} (here : P s) (steps : step s = .next t)
    (queue : ∀ u rest, P u → P { u with pending := rest }) (commands : ∀ c u, P u → ∃ v, exec c u = .next v ∧ P v)
    (time : ∀ u, P u → P (tick u)) : P t := by
  unfold step at steps
  split at steps
  · rename_i c rest _
    obtain ⟨u, next, kept⟩ := commands c _ (queue s rest here)
    cases next.symm.trans steps
    exact kept
  · unfold idle at steps
    split at steps
    · rename_i c _
      obtain ⟨u, next, kept⟩ := commands c s here
      cases next.symm.trans steps
      exact kept
    · cases steps
      exact time s here

/-- Settles O57: every command keeps the check units (`exec_answersResidueSafe`), and so does a microsecond. -/
theorem stepKeepsResidueSafe : Obligations.StepKeepsResidueSafe := by
  unfold Obligations.StepKeepsResidueSafe
  intro s t safe steps
  exact step_keeps safe steps (fun _ _ here => here.follow (by constructor <;> simp))
    (fun c _ here => exec_answersResidueSafe here c) fun _ here => tick_residueSafe here

end Sys2Proof.Machine
end

section
/-! PROOFS. The check of a half and CHECK SET (O28, O30). -/

namespace Sys2Proof.Machine

/-! ## A check in progress (R114, R135) -/

/-- Unit B takes the entry at its count (R135). -/
theorem absorbEntry_eq {s : State} (i : Fin 16) (h : Half) {n : Fin 256} (count : s.ck.entryCount = n.val) :
    absorbEntry i h s =
      { s with
        ck := { s.ck with
          b.residue := absorbWord s.ck.b.cfg s.ck.b.residue (((s.tm.pages.get i).entries h).get n)
          entryCount := n.val + 1, absorbDue := false } } := by
  simp only [absorbEntry, CheckUnit.absorb, count, entryAt_eq_get]

theorem exec_unitBAbsorb {s : State} {i : Fin 16} {h : Half} (job : s.ck.job = some (i, h))
    (more : s.ck.entryCount < 256) (due : s.ck.absorbDue = true) :
    exec .unitBAbsorb s = .next (absorbEntry i h s) := by
  have falls : s.absorbDue = true := by simp [State.absorbDue, job, due, Config.halfEntries, more]
  change execUnitBAbsorb s = _
  simp only [execUnitBAbsorb, job, falls, if_true]

theorem exec_mapCommitCompletion {s : State} {i : Fin 16} {h : Half} {tag : Byte} {expected : BitVec 32}
    (job : s.ck.job = some (i, h)) (commit : s.lp.service = .commit tag expected) (done : s.ck.entryCount = 256) :
    exec .mapCommitCompletion s = .next (completeCheck i h tag expected s) := by
  change execMapCommitCompletion s = _
  simp only [execMapCommitCompletion, job, commit, done, Config.halfEntries, if_true]

/-- The outcome's code is 2 for CHECKED and 3 for FAILED (10.7). -/
theorem checkOutcome_byte (s : State) (expected : BitVec 32) :
    (s.checkOutcome expected).byte = if s.ck.b.final = expected then 2 else 3 := by
  unfold State.checkOutcome; split_ifs <;> rfl

/-- Settles O28: the absorption of an entry, and the completion by the half under check. -/
theorem mapCheckAbsorbsAndJudges : Obligations.MapCheckAbsorbsAndJudges := by
  unfold Obligations.MapCheckAbsorbsAndJudges
  refine ⟨fun s i h n job count due => ?_, fun s i h tag expected job commit done => ?_⟩
  · rw [exec_unitBAbsorb job (count ▸ n.isLt) due, absorbEntry_eq i h count]
  · intro pg outcome
    rw [exec_mapCommitCompletion job commit done, completeCheck, finishService_eq, checkOutcome_byte]
    cases h with
    | a => rfl
    | b => rfl

/-! ## CHECK SET (R129) -/

theorem bytesLE_num32 (b0 b1 b2 b3 : Byte) : bytesLE 4 (num32 b0 b1 b2 b3) = [b0, b1, b2, b3] := by
  simp only [bytesLE, num32, List.cons.injEq, and_true]
  refine ⟨?_, ?_, ?_, ?_⟩ <;> bv_omega

/-- A mark read is written back as the byte it was read from. -/
theorem mark?_byte {b : Byte} {x : Bool} (read : mark? b = some x) : markByte x = b := by
  unfold mark? at read
  split_ifs at read with zero one
  · cases read; exact zero.symm
  · cases read; exact one.symm

/-- A configuration is returned as the bytes it was read from (R129). -/
theorem checkConfig?_bytes {bytes : List Byte} {cfg : CheckConfig} (read : checkConfig? bytes = some cfg) :
    cfg.bytes = bytes := by
  unfold checkConfig? at read
  split at read
  · rename_i b0 b1 b2 b3 b4 b5 b6 b7
    simp only [Option.bind_eq_bind, Option.bind_eq_some_iff] at read
    obtain ⟨zero, initial, lsbFirst, order, invert, final, last⟩ := read
    obtain ⟨-, made⟩ := Option.ite_none_right_eq_some.mp last
    have fits : num32 b1 b2 b3 b4 < 2 ^ 32 := by unfold num32; omega
    cases made
    have initialByte : decide ((if zero then InitialValue.zero else .ones) = .zero) = zero := by cases zero <;> rfl
    have orderByte : decide ((if lsbFirst then InputOrder.lsbFirst else .msbFirst) = .lsbFirst) = lsbFirst := by
      cases lsbFirst <;> rfl
    simp only [CheckConfig.bytes, initialByte, orderByte, mark?_byte initial, mark?_byte order, mark?_byte final,
      BitVec.toNat_ofNat, Nat.mod_eq_of_lt fits, bytesLE_num32, BitVec.ofNat_toNat, BitVec.setWidth_eq]
    rfl
  · cases read

section CheckSet

variable {s : State} (tag : Byte) {unit : Byte} (bytes : List Byte)

theorem checkSetRequest_noUnit (above : 2 ≤ unit.toNat) :
    checkSetRequest tag (unit :: bytes) s = refuse kindCheckSet tag .badField s := by
  simp only [checkSetRequest, half?_none above]

theorem checkSetRequest_busy (active : s.active = true) :
    checkSetRequest tag (0 :: bytes) s = refuse kindCheckSet tag .busy s := by
  change checkSetRequest tag (Half.a.byte :: bytes) s = _
  simp only [checkSetRequest, half?_byte, active, and_self, if_true]

variable {u : Half} (free : ¬ (u = .a ∧ s.active = true)) {bytes}

include free

theorem checkSetRequest_badField (bad : checkConfig? bytes = none) :
    checkSetRequest tag (u.byte :: bytes) s = refuse kindCheckSet tag .badField s := by
  simp only [checkSetRequest, half?_byte, free, if_false, bad]

theorem checkSetRequest_sets {cfg : CheckConfig} (read : checkConfig? bytes = some cfg) :
    checkSetRequest tag (u.byte :: bytes) s = ack kindCheckSet tag (u.byte :: bytes) (setCheck u cfg s) := by
  simp only [checkSetRequest, half?_byte, free, if_false, read, checkConfig?_bytes read]

end CheckSet

theorem initialResidue_eq (cfg : CheckConfig) :
    cfg.initialResidue = if cfg.initial = .ones then BitVec.ofNat 32 (2 ^ cfg.width - 1) else 0 := by
  unfold CheckConfig.initialResidue
  cases cfg.initial <;> rfl

/-- Settles O30: CHECK SET by the checks of TABLE 7.3 in order, and what it stores in each unit. -/
theorem checkSetStoresTheConfiguration : Obligations.CheckSetStoresTheConfiguration := by
  unfold Obligations.CheckSetStoresTheConfiguration
  intro s tag unit bytes rest ready length
  have meaning : exec (.checkSet tag (unit :: bytes)) s =
      .next (checkSetRequest tag (unit :: bytes) (s.awaiting rest)) :=
    owner_serves ready rfl (decide_eq_true (by rw [List.length_cons, length]))
  have freeA (stopped : s.seq.state = .stopped) : ¬ (Half.a = .a ∧ (s.awaiting rest).active = true) := by
    simp [show (s.awaiting rest).active = false from inactive_of_eq stopped]
  have freeB : ¬ (Half.b = .a ∧ (s.awaiting rest).active = true) := by simp
  rw [meaning]
  refine ⟨fun above => ?_, ?_, ?_, fun cfg read => ⟨?_, ?_⟩⟩
  · exact congrArg _ (checkSetRequest_noUnit tag bytes above)
  · rintro rfl running
    exact congrArg _ (checkSetRequest_busy (s := s.awaiting rest) tag bytes (active_of_ne running))
  · rintro (⟨rfl, stopped⟩ | rfl) bad
    · exact congrArg _ (checkSetRequest_badField tag (freeA stopped) bad)
    · exact congrArg _ (checkSetRequest_badField tag freeB bad)
  · rintro rfl stopped
    refine congrArg _ ((checkSetRequest_sets tag (freeA stopped) read).trans ?_)
    rw [setCheck, initialResidue_eq]
    rfl
  · rintro rfl
    exact congrArg _ (checkSetRequest_sets tag freeB read)

end Sys2Proof.Machine
end

section
/-! PROOFS. The agreement of queue, held slot and claims with the sequencer, through the shared operations of a run:
between steps nothing is in flight, and from there each operation leads to a state that agrees (O54). -/

namespace Sys2Proof.Machine

/-! ## What a state holds in flight -/

/-- What of the queue, the Converter, the monitor and the port the invariant speaks of stands; records may have left. -/
structure SameFlight (s t : State) : Prop where
  records : t.rq.records.length ≤ s.rq.records.length
  held : t.rq.held = s.rq.held
  policy : t.rq.policy = s.rq.policy
  claim : t.cv.claim = s.cv.claim
  monitor : t.tu.monitor = s.tu.monitor
  service : t.lp.service = s.lp.service
  reply : s.lp.service ≠ .idle → s.lp.reply = none → t.lp.reply = none

/-- The same with the sequencer's state, its sample count and the run context. -/
structure SameAccord (s t : State) : Prop where
  flight : SameFlight s t
  run : t.seq.state = s.seq.state ∧ t.seq.sampleCount = s.seq.sampleCount ∧ t.seq.ctx = s.seq.ctx

/-- No claim on the Converter, no held record, the monitor idle and no SAMPLE in service: a run between two steps. -/
structure NothingInFlight (s : State) : Prop where
  capacity : s.rq.records.length ≤ 1024
  held : s.rq.held = none
  claim : s.cv.claim = none
  monitor : s.tu.monitor = .idle
  unsampled : ¬ s.lp.service.sampling
  oneAtATime : s.lp.service ≠ .idle → s.lp.reply = none

/-- Under HALT the queue keeps a place for the marker of a pass with records (R141, R142). -/
def State.MarkerRoom (s : State) : Prop :=
  s.rq.policy = .halt → 1 ≤ s.seq.sampleCount → s.rq.records.length ≤ 1023

theorem SameFlight.refl (s : State) : SameFlight s s := by constructor <;> simp

theorem SameAccord.refl (s : State) : SameAccord s s := ⟨.refl s, by simp⟩

theorem SameFlight.trans {s t u : State} (first : SameFlight s t) (second : SameFlight t u) : SameFlight s u where
  records := second.records.trans first.records
  held := second.held.trans first.held
  policy := second.policy.trans first.policy
  claim := second.claim.trans first.claim
  monitor := second.monitor.trans first.monitor
  service := second.service.trans first.service
  reply busy none := second.reply (first.service ▸ busy) (first.reply busy none)

theorem SameAccord.trans {s t u : State} (first : SameAccord s t) (second : SameAccord t u) : SameAccord s u where
  flight := first.flight.trans second.flight
  run := by
    obtain ⟨state, count, ctx⟩ := first.run
    rw [← state, ← count, ← ctx]
    exact second.run

theorem SameAccord.markerRoom {s t : State} (same : SameAccord s t) (room : s.MarkerRoom) : t.MarkerRoom := by
  obtain ⟨flight, -, count, -⟩ := same
  exact fun halt counted => flight.records.trans (room (flight.policy ▸ halt) (count ▸ counted))

theorem not_converting {service : Service} (unsampled : ¬ service.sampling) :
    ¬ ∃ tag f din, service = .sampleConverting tag f din := by
  rintro ⟨tag, f, din, rfl⟩
  exact unsampled trivial

namespace NothingInFlight

variable {s t : State}

theorem follow (free : NothingInFlight s) (same : SameFlight s t) : NothingInFlight t where
  capacity := same.records.trans free.capacity
  held := same.held.trans free.held
  claim := same.claim.trans free.claim
  monitor := same.monitor.trans free.monitor
  unsampled := same.service ▸ free.unsampled
  oneAtATime busy := by
    rw [same.service] at busy
    exact same.reply busy (free.oneAtATime busy)

/-- With nothing in flight the sequencer may stand in any state but HALTED and its conversions. -/
theorem runSafe (free : NothingInFlight s) (room : s.seq.state.inPass = true → s.MarkerRoom)
    (notHalted : s.seq.state ≠ .halted) (notConverting : s.seq.state ≠ .running .converting) : RunSafe s where
  capacity := free.capacity
  markerPlace halt pass := room pass halt
  held := by simp [free.held, notHalted]
  discard _ := free.held
  stepClaim := by simp [free.claim, notConverting]
  monitorClaim := by simp [free.claim, free.monitor]
  sampleClaim := iff_of_false (by simp [free.claim]) (not_converting free.unsampled)
  monitor active := absurd free.monitor active
  sampling busy := absurd busy free.unsampled
  sums c claim := by rw [free.claim] at claim; cases claim
  oneAtATime := free.oneAtATime

end NothingInFlight

namespace RunSafe

variable {s t : State}

theorem follow (safe : RunSafe s) (same : SameAccord s t) : RunSafe t := by
  obtain ⟨flight, state, count, ctx⟩ := same
  exact {
    capacity := flight.records.trans safe.capacity
    markerPlace := fun halt pass counted =>
      flight.records.trans (safe.markerPlace (flight.policy ▸ halt) (state ▸ pass) (count ▸ counted))
    held := by rw [flight.held, state]; exact safe.held
    discard := fun policy => flight.held.trans (safe.discard (flight.policy ▸ policy))
    stepClaim := by rw [flight.claim, state]; exact safe.stepClaim
    monitorClaim := by rw [flight.claim, flight.monitor]; exact safe.monitorClaim
    sampleClaim := by rw [flight.claim, flight.service]; exact safe.sampleClaim
    monitor := by rw [flight.monitor, state, ctx]; exact safe.monitor
    sampling := by rw [flight.service, state]; exact safe.sampling
    sums := by rw [flight.claim]; exact safe.sums
    oneAtATime := fun busy => by
      rw [flight.service] at busy
      exact flight.reply busy (safe.oneAtATime busy) }

theorem markerRoom (safe : RunSafe s) (pass : s.seq.state.inPass = true) : s.MarkerRoom :=
  fun halt => safe.markerPlace halt pass

theorem unheld (safe : RunSafe s) (notHalted : s.seq.state ≠ .halted) : s.rq.held = none := by
  by_contra held
  exact notHalted (safe.held.mp (Option.isSome_iff_ne_none.mpr held))

/-- The monitor runs in ARMED with start source LEVEL alone (R56, R58). -/
theorem monitor_idle (safe : RunSafe s) (unwatched : ¬ (s.seq.state = .armed ∧ s.seq.ctx.start = .level)) :
    s.tu.monitor = .idle := by
  by_contra active
  exact unwatched (safe.monitor active)

/-- In an active state no SAMPLE is in service (R74). -/
theorem unsampled (safe : RunSafe s) (active : s.seq.state ≠ .stopped) : ¬ s.lp.service.sampling :=
  fun busy => active (safe.sampling busy)

/-- A SAMPLE's claim is of a SAMPLE in service (R75). -/
theorem claimant_ne_sample (safe : RunSafe s) (unsampled : ¬ s.lp.service.sampling) {c : Claim}
    (claim : s.cv.claim = some c) : c.claimant ≠ .sample := fun sample =>
  not_converting unsampled (safe.sampleClaim.mp ⟨c, claim, sample⟩)

theorem claimant_ne_monitor (safe : RunSafe s) (idle : s.tu.monitor = .idle) {c : Claim}
    (claim : s.cv.claim = some c) : c.claimant ≠ .monitor := fun monitor => by
  cases idle.symm.trans (safe.monitorClaim.mp ⟨c, claim, monitor⟩)

theorem claimant_ne_step (safe : RunSafe s) (notConverting : s.seq.state ≠ .running .converting) {c : Claim}
    (claim : s.cv.claim = some c) : c.claimant ≠ .step := fun step =>
  notConverting (safe.stepClaim.mp ⟨c, claim, step⟩)

/-- Where none of the three claimants holds the Converter it is IDLE (R72). -/
theorem unclaimed (safe : RunSafe s) (notConverting : s.seq.state ≠ .running .converting)
    (idle : s.tu.monitor = .idle) (unsampled : ¬ s.lp.service.sampling) : s.cv.claim = none := by
  cases claim : s.cv.claim with
  | none => rfl
  | some c =>
    cases claimant : c.claimant with
    | step => exact absurd claimant (safe.claimant_ne_step notConverting claim)
    | monitor => exact absurd claimant (safe.claimant_ne_monitor idle claim)
    | sample => exact absurd claimant (safe.claimant_ne_sample unsampled claim)

theorem nothingInFlight (safe : RunSafe s) (notHalted : s.seq.state ≠ .halted)
    (notConverting : s.seq.state ≠ .running .converting) (idle : s.tu.monitor = .idle)
    (unsampled : ¬ s.lp.service.sampling) : NothingInFlight s where
  capacity := safe.capacity
  held := safe.unheld notHalted
  claim := safe.unclaimed notConverting idle unsampled
  monitor := idle
  unsampled := unsampled
  oneAtATime := safe.oneAtATime

/-- In these states of a run nothing is in flight. -/
theorem betweenSteps (safe : RunSafe s)
    (state : s.seq.state ∈ [.running .settling, .running .spacing, .paused, .waiting]) : NothingInFlight s := by
  have apart (other : AcqState) (outside : other ∉ [.running .settling, .running .spacing, .paused, .waiting]) :
      s.seq.state ≠ other := fun same => outside (same ▸ state)
  exact safe.nothingInFlight (apart _ (by decide)) (apart _ (by decide))
    (safe.monitor_idle fun watched => apart .armed (by decide) watched.1) (safe.unsampled (apart _ (by decide)))

/-- In ARMED nothing is in flight where the start source is not LEVEL (R56). -/
theorem armed_nothingInFlight (safe : RunSafe s) (armed : s.seq.state = .armed) (idle : s.tu.monitor = .idle) :
    NothingInFlight s :=
  safe.nothingInFlight (by simp [armed]) (by simp [armed]) idle (safe.unsampled (by simp [armed]))

/-- With the port free nothing is in flight in STOPPED (R42, R74). -/
theorem stopped_nothingInFlight (safe : RunSafe s) (stopped : s.seq.state = .stopped) (free : s.lp.service = .idle) :
    NothingInFlight s :=
  safe.nothingInFlight (by simp [stopped]) (by simp [stopped]) (safe.monitor_idle (by simp [stopped]))
    (by rw [free]; exact id)

end RunSafe

/-! ## Appends -/

section Appends

variable {s : State} (free : NothingInFlight s) (room : s.rq.policy = .halt → s.rq.records.length ≤ 1023)

include free room

/-- A record joins within the capacity and nothing comes in flight (R138, R142). -/
theorem pushRecord_nothingInFlight (r : Record) : NothingInFlight (pushRecord r s) where
  capacity := pushRecord_length r s free.capacity room
  held := by simpa using free.held
  claim := by simpa using free.claim
  monitor := by simpa using free.monitor
  unsampled := by simpa using free.unsampled
  oneAtATime := by simpa using free.oneAtATime

theorem appendMarker_nothingInFlight (status : MarkerStatus) : NothingInFlight (appendMarker status s) :=
  (pushRecord_nothingInFlight free room (.marker (markerOf status s))).follow (by constructor <;> simp [appendMarker])

theorem appendSample_nothingInFlight (r : SampleRecord) : NothingInFlight (appendSample r s) :=
  (pushRecord_nothingInFlight free room (.sample r)).follow (by constructor <;> simp [appendSample])

end Appends

/-- Under HALT a sample record is appended below 1023 records, so a place is left for the marker (R141, R142). -/
theorem appendSample_room {s : State} (r : SampleRecord) (below : s.rq.policy = .halt → s.rq.records.length < 1023) :
    (appendSample r s).rq.policy = .halt → (appendSample r s).rq.records.length ≤ 1023 := by
  intro halt
  have halts : s.rq.policy = .halt := by simpa using halt
  rw [appendSample_records]
  simpa [halts] using below halts

/-! ## Entry to STOPPED and stops (R40, R42) -/

/-- The triggers stop with the monitor's own claim; another's stands (R58). -/
theorem enterStopped_sameFlight (cause : EndCause) (s : State) :
    SameFlight (stopTriggers s) (enterStopped cause s) := by
  constructor <;> simp [enterStopped_claim, enterStopped_tu, stopTriggers, abandonClaim_claim]

theorem enterStopped_runSafe {s : State} (cause : EndCause) (free : NothingInFlight (stopTriggers s)) :
    RunSafe (enterStopped cause s) := by
  have state : (enterStopped cause s).seq.state = .stopped := by rw [enterStopped_seq]
  exact (free.follow (enterStopped_sameFlight cause s)).runSafe (by simp [state, AcqState.inPass]) (by simp [state])
    (by simp [state])

theorem stopTriggers_nothingInFlight {s : State} (free : NothingInFlight s) : NothingInFlight (stopTriggers s) :=
  free.follow (by constructor <;> simp [stopTriggers, abandonClaim_claim, free.claim, free.monitor])

/-- A stop of a run whose step, once given up, leaves nothing in flight (R40). -/
theorem runStop_of_abandoned {s : State} (cause : EndCause) (free : NothingInFlight (discardHeld (abandonStep s)))
    (room : s.seq.state ≠ .waiting → s.MarkerRoom) : RunSafe (runStop cause s) := by
  unfold runStop
  dsimp only
  split_ifs with closed
  · have place : (discardHeld (abandonStep s)).rq.policy = .halt →
        (discardHeld (abandonStep s)).rq.records.length ≤ 1023 := by
      simpa using fun halt => room closed.1 halt closed.2
    exact enterStopped_runSafe cause (stopTriggers_nothingInFlight (appendMarker_nothingInFlight free place .aborted))
  · exact enterStopped_runSafe cause (stopTriggers_nothingInFlight free)

theorem NothingInFlight.abandonStep {s : State} (free : NothingInFlight s) :
    NothingInFlight (discardHeld (abandonStep s)) :=
  free.follow (by constructor <;> simp [discardHeld_abandonStep, State.withoutStep, free.claim, free.held])

/-- Past ARMED a step's claim and its held record are all that can be in flight (R31, R72). -/
theorem RunSafe.abandonStep {s : State} (safe : RunSafe s) (active : s.seq.state ≠ .stopped)
    (triggered : s.seq.state ≠ .armed) : NothingInFlight (discardHeld (abandonStep s)) where
  capacity := by simpa using safe.capacity
  held := rfl
  claim := by
    have idle := safe.monitor_idle fun watched => triggered watched.1
    rw [discardHeld_abandonStep]
    cases claim : s.cv.claim with
    | none => simp [State.withoutStep, claim]
    | some c =>
      have step : c.claimant = .step := by
        cases claimant : c.claimant with
        | step => rfl
        | monitor => exact absurd claimant (safe.claimant_ne_monitor idle claim)
        | sample => exact absurd claimant (safe.claimant_ne_sample (safe.unsampled active) claim)
      simp [State.withoutStep, claim, step, Option.filter]
  monitor := by simpa using safe.monitor_idle fun watched => triggered watched.1
  unsampled := by simpa using safe.unsampled active
  oneAtATime := by simpa using safe.oneAtATime

theorem runStop_runSafe {s : State} (cause : EndCause) (safe : RunSafe s) (active : s.seq.state ≠ .stopped)
    (triggered : s.seq.state ≠ .armed) : RunSafe (runStop cause s) := by
  refine runStop_of_abandoned cause (safe.abandonStep active triggered) fun notWaiting => safe.markerRoom ?_
  cases state : s.seq.state <;> simp_all [AcqState.inPass]

/-! ## Steps and passes (R23, R24, R34) -/

theorem stepBegin_runSafe {s : State} (free : NothingInFlight s) (room : s.MarkerRoom) : RunSafe (stepBegin s) := by
  have kept : SameFlight s (stepBegin s) := by constructor <;> simp
  have place : (stepBegin s).MarkerRoom := by simpa [State.MarkerRoom] using room
  refine (free.follow kept).runSafe (fun _ => place) ?_ ?_
  all_goals rw [stepBegin_state]; split_ifs <;> simp

theorem nextStep_runSafe {s : State} (free : NothingInFlight s) (room : s.MarkerRoom) : RunSafe (nextStep s) :=
  stepBegin_runSafe (free.follow (by constructor <;> simp)) room

theorem releasePause_runSafe {s : State} (free : NothingInFlight s) (room : s.MarkerRoom) :
    RunSafe (releasePause s) :=
  stepBegin_runSafe (free.follow (by constructor <;> simp)) room

/-- A pass starts with no records, so no place is asked for its marker (R23, R41). -/
theorem passStart_runSafe {s : State} (free : NothingInFlight s) : RunSafe (passStart s) :=
  stepBegin_runSafe (free.follow (by constructor <;> simp)) (by simp [State.MarkerRoom])

theorem startTrigger_runSafe {s : State} (free : NothingInFlight s) : RunSafe (startTrigger s) :=
  passStart_runSafe (free.follow (by constructor <;> simp))

/-- A run goes on by TABLE 2.5 with nothing in flight: STOPPED, a pass, or WAITING, none with a marker to come (R34). -/
theorem passContinue_runSafe {s : State} (stopCause : Bool) (free : NothingInFlight s) :
    RunSafe (passContinue stopCause s) := by
  have stops := stopTriggers_nothingInFlight free
  unfold passContinue
  split_ifs
  · exact enterStopped_runSafe .limit stops
  · exact enterStopped_runSafe .complete stops
  · exact passStart_runSafe free
  · have waits :
        NothingInFlight { s with seq := { s.seq with state := .waiting, stepTimer := .idle, settle := none } } :=
      free.follow (by constructor <;> simp)
    exact waits.runSafe nofun (by simp) (by simp)

theorem passEnd_runSafe {s : State} (stopCause : Bool) (free : NothingInFlight s)
    (room : s.rq.policy = .halt → s.rq.records.length ≤ 1023) : RunSafe (passEnd stopCause s) :=
  passContinue_runSafe stopCause
    ((appendMarker_nothingInFlight free room .complete).follow (by constructor <;> simp))

/-- The four ways on from an appended record (R29). -/
theorem afterAppend_runSafe {s : State} (stopCause : Bool) (free : NothingInFlight s)
    (room : s.rq.policy = .halt → s.rq.records.length ≤ 1023) : RunSafe (afterAppend stopCause s) := by
  have place : s.MarkerRoom := fun halt _ => room halt
  unfold afterAppend
  split_ifs
  · exact runStop_of_abandoned .limit free.abandonStep fun _ => place
  · exact passEnd_runSafe stopCause free room
  · exact nextStep_runSafe free place
  · have spaced : NothingInFlight { s with seq.state := .running .spacing } := free.follow (by constructor <;> simp)
    exact spaced.runSafe (fun _ => place) (by simp) (by simp)

theorem appended_runSafe {s : State} (o : Offer) (free : NothingInFlight s)
    (below : s.rq.policy = .halt → s.rq.records.length < 1023) :
    RunSafe (afterAppend o.stopCause (appendSample o.record s)) :=
  afterAppend_runSafe o.stopCause (appendSample_nothingInFlight free (fun halt => (below halt).le) o.record)
    (appendSample_room o.record below)

/-- An offered record is held in HALTED under HALT at 1023 records, else appended (R31, R141, R143). -/
theorem offerSample_runSafe {s : State} (o : Offer) (free : NothingInFlight s) (room : s.MarkerRoom) :
    RunSafe (offerSample o s) := by
  unfold offerSample
  split_ifs with full
  · obtain ⟨halt, -⟩ := full
    exact {
      capacity := by simpa using free.capacity
      markerPlace := fun _ _ => by simpa using room halt
      held := by simp
      discard := by simp [halt]
      stepClaim := by simp [free.claim]
      monitorClaim := by simp [free.claim, free.monitor]
      sampleClaim := by simpa [free.claim] using not_converting free.unsampled
      monitor := by simp [free.monitor]
      sampling := by simp [free.unsampled]
      sums := by simp [free.claim]
      oneAtATime := by simpa using free.oneAtATime }
  · exact appended_runSafe o free fun halt => Nat.not_le.mp fun many => full ⟨halt, many⟩

/-- A held record is of a run in HALTED, where nothing else is in flight (R32, R144). -/
theorem releaseHeld_runSafe {s : State} (safe : RunSafe s) : RunSafe (releaseHeld s) := by
  unfold releaseHeld
  split
  · rename_i o held
    split_ifs with below
    · have halted : s.seq.state = .halted := safe.held.mp (by simp [held])
      have idle : s.tu.monitor = .idle := safe.monitor_idle (by simp [halted])
      have unsampled := safe.unsampled (by simp [halted])
      have free : NothingInFlight (discardHeld s) :=
        ⟨by simpa using safe.capacity, rfl, by simpa using safe.unclaimed (by simp [halted]) idle unsampled,
          by simpa using idle, by simpa using unsampled, by simpa using safe.oneAtATime⟩
      exact appended_runSafe o free fun _ => below
    · exact safe
  · exact safe

end Sys2Proof.Machine
end

section
/-! PROOFS. Every step keeps queue, held slot and claims in agreement with the sequencer (O54). -/

namespace Sys2Proof.Machine

/-- Once the triggers of a run in ARMED stop, the monitor's claim with them, nothing is in flight (R58). -/
theorem RunSafe.armed_stopTriggers {s : State} (safe : RunSafe s) (armed : s.seq.state = .armed) :
    NothingInFlight (stopTriggers s) := by
  have unsampled := safe.unsampled (by simp [armed])
  have unclaimed : (stopTriggers s).cv.claim = none := by
    simp only [stopTriggers, abandonClaim_claim]
    cases claim : s.cv.claim with
    | none => rfl
    | some c =>
      have monitor : c.claimant = .monitor := by
        cases claimant : c.claimant with
        | step => exact absurd claimant (safe.claimant_ne_step (by simp [armed]) claim)
        | monitor => rfl
        | sample => exact absurd claimant (safe.claimant_ne_sample unsampled claim)
      simp [Option.filter, monitor]
  exact ⟨by simpa using safe.capacity, by simpa using safe.unheld (by simp [armed]), unclaimed, rfl,
    by simpa using unsampled, by simpa using safe.oneAtATime⟩

/-! ## The requests that are answered at once -/

/-- An owner of a request that, with no other request in service, leaves all the invariant speaks of. -/
def KeepsAccord (owner : State → State) : Prop := ∀ s, s.lp.service = .idle → SameAccord s (owner s)

/-- A reply is formed where no request is in service (R163, R164). -/
theorem putReply_keepsAccord (r : Frame) : KeepsAccord (putReply r) := fun s free =>
  ⟨by constructor <;> simp [free], by simp⟩

theorem ack_keepsAccord (kind tag : Byte) (body : List Byte) : KeepsAccord (ack kind tag body) := putReply_keepsAccord _

theorem refuse_keepsAccord (kind tag : Byte) (reason : Reason) : KeepsAccord (refuse kind tag reason) :=
  putReply_keepsAccord _

/-- CHECK SET ends in a reply too, on a state in which a check unit alone may have changed. -/
theorem checkSetRequest_keepsAccord (tag : Byte) (body : List Byte) : KeepsAccord (checkSetRequest tag body) := by
  intro s free
  unfold checkSetRequest setCheck
  repeat' split
  all_goals exact ⟨by constructor <;> simp [free], by simp⟩

/-- Each branch of the owners that end in a reply is that reply on a state in which other blocks alone have changed. -/
theorem quietOwners_keepAccord : ∀ owner ∈ quietOwners, ∀ tag body, KeepsAccord (owner tag body) := by
  simp only [quietOwners, List.forall_mem_cons, List.not_mem_nil, false_implies, implies_true, and_true]
  refine ⟨?_, ?_, ?_, ?_, ?_, ?_, ?_, ?_, ?_, ?_, ?_, ?_⟩ <;> intro tag body s free
  all_goals
    delta attentionSetRequest programLoadRequest loadProgram programTrimRequest programReadRequest triggerSetRequest
      outputSetRequest outputSetAck profileSetRequest setProfile profileReadRequest substituteSetRequest mapLoadRequest
      mapSwapRequest mapReadRequest putPage
    try dsimp only
    repeat' split
  all_goals exact ⟨by constructor <;> simp [free], by simp⟩

/-! ## What STOP and the actions of CLEAR do to a run -/

theorem armRun_service (f : ArmFields) (s : State) : (armRun f s).lp.service = s.lp.service := by
  cases start : f.ctx.start with
  | now => simp [armRun_now start, State.armedBy]
  | level => rw [armRun_level start]; rfl
  | line => rw [armRun_waits (.inl start)]; rfl
  | pattern => rw [armRun_waits (.inr start)]; rfl

theorem stopRun_service (s : State) : (stopRun s).lp.service = s.lp.service := by
  unfold stopRun
  split <;> simp

/-- STOP ends a run in ARMED, where the monitor's claim alone can be in flight, or stops it (R37). -/
theorem stopRun_runSafe {s : State} (safe : RunSafe s) : RunSafe (stopRun s) := by
  obtain ⟨-, same⟩ | ⟨armed, ends⟩ | ⟨active, triggered, stops⟩ := stopRun_cases s
  · rw [same]; exact safe
  · rw [ends]; exact enterStopped_runSafe .request (safe.armed_stopTriggers armed)
  · rw [stops]; exact runStop_runSafe .request safe active triggered

theorem emptyQueueAction_runSafe {s : State} (safe : RunSafe s) : RunSafe (emptyQueueAction s) :=
  releaseHeld_runSafe (safe.follow ⟨by constructor <;> simp, by simp⟩)

/-- Of the actions of CLEAR only EMPTY_QUEUE reaches the queue and the run (R153). -/
theorem clearActions_runSafe {s : State} (safe : RunSafe s) (actions : Byte) : RunSafe (clearActions actions s) := by
  have emptied := actIf_of (named := actions.getLsbD 0) safe (emptyQueueAction_runSafe safe)
  have programErased := actIf_of (named := actions.getLsbD 1) emptied
    (emptied.follow (t := eraseProgramAction _) ⟨by constructor <;> simp, by simp⟩)
  have mapsErased := actIf_of (named := actions.getLsbD 2) programErased
    (programErased.follow (t := eraseMapsAction _) ⟨by constructor <;> simp, by simp⟩)
  exact actIf_of mapsErased (mapsErased.follow ⟨by constructor <;> simp, by simp⟩)

/-! ## The requests that act on a run or take time -/

section Requests

variable {s : State} (tag : Byte) (body : List Byte) (free : s.lp.service = .idle) (safe : RunSafe s)

include free safe

/-- A reply to what a run has done, no request being in service. -/
theorem RunSafe.acked (kind : Byte) : RunSafe (ack kind tag body s) :=
  safe.follow (ack_keepsAccord kind tag body s free)

theorem RunSafe.refused (kind : Byte) (reason : Reason) : RunSafe (refuse kind tag reason s) :=
  safe.follow (refuse_keepsAccord kind tag reason s free)

/-- A request that takes time enters service without a claim; a SAMPLE in STOPPED alone (R74, R113). -/
theorem RunSafe.beginsService {service : Service} (empty : s.lp.reply = none)
    (settles : ∀ tag f din, service ≠ .sampleConverting tag f din)
    (stopped : service.sampling → s.seq.state = .stopped) : RunSafe { s with lp.service := service } := by
  have unsampled : ¬ s.lp.service.sampling := by rw [free]; exact id
  have unclaimed : ¬ ∃ c, s.cv.claim = some c ∧ c.claimant = .sample := fun ⟨_, claim, sample⟩ =>
    safe.claimant_ne_sample unsampled claim sample
  exact { safe with
    sampleClaim := iff_of_false unclaimed fun ⟨tag, f, din, converting⟩ => settles tag f din converting
    sampling := stopped
    oneAtATime := fun _ => empty }

theorem sampleRequest_runSafe (empty : s.lp.reply = none) : RunSafe (sampleRequest tag body s) := by
  unfold sampleRequest
  split_ifs with active
  · exact safe.refused tag free _ _
  · split
    · exact safe.refused tag free _ _
    · exact safe.beginsService free empty nofun fun _ => stopped_of_inactive active

theorem mapCommitRequest_runSafe (empty : s.lp.reply = none) : RunSafe (mapCommitRequest tag body s) := by
  unfold mapCommitRequest
  repeat' split
  any_goals exact safe.refused tag free _ _
  · rename_i b1 b2 b3 b4 _ _ _ _ _
    have begun :=
      safe.beginsService free empty (service := .commit tag (BitVec.ofNat 32 (num32 b1 b2 b3 b4))) nofun nofun
    exact begun.follow ⟨by constructor <;> simp [beginCheck], by simp [beginCheck]⟩

/-- An accepted ARM finds nothing in flight and starts with no records counted; the monitor then times for LEVEL alone
(R21, R56). -/
theorem armRun_runSafe (f : ArmFields) (stopped : s.seq.state = .stopped) : RunSafe (armRun f s) := by
  obtain ⟨capacity, held, claim, -, unsampled, oneAtATime⟩ := safe.stopped_nothingInFlight stopped free
  have prepared : NothingInFlight (s.armedBy f) := ⟨capacity, held, claim, rfl, unsampled, oneAtATime⟩
  have waits : RunSafe (s.armedBy f) := prepared.runSafe nofun nofun nofun
  cases start : f.ctx.start with
  | now => rw [armRun_now start]; exact startTrigger_runSafe prepared
  | level =>
    rw [armRun_level start]
    exact { waits with
      monitorClaim := by simp [startMonitor, prepared.claim]
      monitor := fun _ => ⟨rfl, start⟩ }
  | line => rw [armRun_waits (.inl start)]; exact waits
  | pattern => rw [armRun_waits (.inr start)]; exact waits

theorem armRequest_runSafe : RunSafe (armRequest tag body s) := by
  unfold armRequest
  split_ifs with active
  iterate 2 exact safe.refused tag free _ _
  split
  · exact safe.refused tag free _ _
  · rename_i f _
    have armed := armRun_runSafe free safe f (stopped_of_inactive active)
    exact armed.acked tag _ ((armRun_service f s).trans free) _

theorem stopRequest_runSafe : RunSafe (stopRequest tag s) :=
  (stopRun_runSafe safe).acked tag _ ((stopRun_service s).trans free) _

theorem resumeRequest_runSafe : RunSafe (resumeRequest tag s) := by
  unfold resumeRequest
  split_ifs with paused
  iterate 2 exact safe.refused tag free _ _
  have state : s.seq.state = .paused := not_not.mp paused
  have released := releasePause_runSafe (safe.betweenSteps (by simp [state]))
    (safe.markerRoom (by simp [state, AcqState.inPass]))
  exact released.acked tag _ (by simpa using free) _

theorem drainRequest_runSafe : RunSafe (drainRequest tag body s) := by
  unfold drainRequest
  split
  · rename_i n
    split_ifs
    · exact safe.refused tag free _ _
    · have removed : RunSafe (removeRecords n.toNat s) :=
        safe.follow ⟨by constructor <;> simp [removeRecords], by simp [removeRecords]⟩
      exact (releaseHeld_runSafe removed).acked tag _ (by simpa [removeRecords] using free) _
  · exact safe.refused tag free _ _

theorem clearOwner_runSafe (mask : BitVec 16) (actions : Byte) : RunSafe (clearOwner tag mask actions s) := by
  obtain bad | busy | ⟨-, cleared⟩ := clearOwner_cases tag mask actions s
  · rw [bad]; exact safe.refused tag free _ _
  · rw [busy]; exact safe.refused tag free _ _
  · have flagged : RunSafe (clearFlags (mask.setWidth 14) s) :=
      safe.follow ⟨by constructor <;> simp, by simp⟩
    have service : (clearActions actions (clearFlags (mask.setWidth 14) s)).lp.service = .idle := by
      unfold clearActions actIf
      split_ifs <;> simpa using free
    rw [cleared]
    exact (clearActions_runSafe flagged actions).acked tag _ service _

theorem clearRequest_runSafe : RunSafe (clearRequest tag body s) := by
  unfold clearRequest
  split
  · exact clearOwner_runSafe tag free safe _ _
  · exact safe.refused tag free _ _

end Requests

/-- A request command keeps the agreement where its owner does at a free port (R163). -/
theorem serve_runSafe {kind tag : Byte} {body : List Byte} {lengthOk : Bool} {owner : State → State} {s : State}
    (safe : RunSafe s)
    (owned : ∀ t, t.lp.service = .idle → t.lp.reply = none → RunSafe t → RunSafe (owner t)) :
    RunSafe (serve kind tag body lengthOk owner s) := by
  refine serve_keeps safe (fun _ => safe.follow ⟨by constructor <;> simp, by simp⟩) fun t rest here ready => ?_
  obtain ⟨free, empty, -⟩ := ready
  have taken : RunSafe (takeRequest t) := here.follow ⟨by constructor <;> simp, by simp⟩
  unfold beginService
  split_ifs
  · exact owned _ (by simpa using free) (by simpa using empty) taken
  · exact taken.refused tag (by simpa using free) _ _

/-! ## The events of the line -/

/-- The reset of a RESET leaves nothing in flight (R44, R78, R155). -/
theorem resetEffect_runSafe {s : State} (free : s.lp.service = .idle) : RunSafe (resetEffect s) := by
  have quiet (u : State) (service : u.lp.service = .idle) : NothingInFlight (resetBlocks u) :=
    ⟨Nat.zero_le _, rfl, rfl, rfl, by simp [resetBlocks, service, Service.sampling], by simp [resetBlocks, service]⟩
  have state := resetEffect_state s
  have nothing : NothingInFlight (resetEffect s) := by
    unfold resetEffect
    split_ifs
    · exact quiet _ (by simpa [resetStop] using free)
    · exact quiet _ free
  exact nothing.runSafe (by simp [state, AcqState.inPass]) (by simp [state]) (by simp [state])

section Reply

variable {s : State} {r : Transmission} (sends : s.lp.reply = some r) (safe : RunSafe s)

include sends safe

/-- While a reply is being sent no request is in service (R163). -/
theorem RunSafe.free_of_reply : s.lp.service = .idle := by
  by_contra busy
  cases sends.symm.trans (safe.oneAtATime busy)

theorem endReply_runSafe : RunSafe (endReply r s) := by
  have free := safe.free_of_reply sends
  unfold endReply
  dsimp only
  split_ifs
  · exact resetEffect_runSafe free
  · exact safe.follow ⟨by constructor <;> simp, by simp⟩

theorem cutReply_runSafe : RunSafe (cutReply r s) :=
  (endReply_runSafe sends safe).follow ⟨by constructor <;> simp [cutReply], by simp [cutReply]⟩

/-- A change of the reply being sent, which stays one. -/
theorem RunSafe.resends (next : Transmission) : RunSafe { s with lp.reply := some next } :=
  safe.follow ⟨by constructor <;> simp [sends], by simp⟩

end Reply

theorem breakReply_runSafe {s : State} (safe : RunSafe s) : RunSafe (breakReply s) := by
  unfold breakReply
  split
  · exact safe.follow ⟨by constructor <;> simp, by simp⟩
  · rename_i r sends
    split_ifs
    · exact cutReply_runSafe sends safe
    · exact safe.resends sends _

/-! ## The events of a run -/

theorem Averaging.count_pos (a : Averaging) : 0 < a.count := by cases a <;> decide

/-- A new claim has done no conversion of its own (R66, R70). -/
theorem claimConverter_sums {k : Claimant} {channel : Fin 16} {range : Range} {asked : Averaging} {s : State}
    {c : Claim}
    (claim : (claimConverter k channel range asked s).cv.claim = some c) :
    c.done < c.asked.count ∧ c.sum ≤ 16383 * c.done := by
  cases claim
  exact ⟨asked.count_pos, Nat.zero_le _⟩

/-- A settle's expiry claims a Converter that nothing holds, or offers a record (R27, R72). -/
theorem expireSettle_runSafe {s : State} (safe : RunSafe s) (settling : s.seq.state = .running .settling) :
    RunSafe (expireSettle s) := by
  have free := safe.betweenSteps (by simp [settling])
  have room := safe.markerRoom (by simp [settling, AcqState.inPass])
  unfold expireSettle
  dsimp only
  cases s.entry.source with
  | analog =>
    exact {
      capacity := free.capacity
      markerPlace := fun halt _ => room halt
      held := by simp [holdReading, free.held]
      discard := fun _ => free.held
      stepClaim := by simp [claimConverter]
      monitorClaim := by simp [claimConverter, holdReading, free.monitor]
      sampleClaim := by simpa [claimConverter, holdReading] using not_converting free.unsampled
      monitor := fun active => absurd free.monitor active
      sampling := fun busy => absurd busy free.unsampled
      sums := fun _ claim => claimConverter_sums claim
      oneAtATime := free.oneAtATime }
  | digital => exact offerSample_runSafe _ (free.follow (by constructor <;> simp [holdReading])) room

theorem expireStepTimer_runSafe {s : State} (safe : RunSafe s) : RunSafe (expireStepTimer s) := by
  unfold expireStepTimer
  split_ifs with spacing
  · exact nextStep_runSafe (safe.betweenSteps (by simp [spacing]))
      (safe.markerRoom (by simp [spacing, AcqState.inPass]))
  · exact safe.follow ⟨by constructor <;> simp, by simp⟩

theorem missTick_runSafe {s : State} (safe : RunSafe s) : RunSafe (missTick s) :=
  safe.follow ⟨by constructor <;> simp [missTick], by simp [missTick]⟩

theorem expirePacer_runSafe {s : State} (safe : RunSafe s) : RunSafe (expirePacer s) := by
  have next : RunSafe { s with seq.pacer := some s.seq.ctx.passInterval.toNat } :=
    safe.follow ⟨by constructor <;> simp, by simp⟩
  unfold expirePacer
  dsimp only
  split
  · rename_i waiting
    exact passStart_runSafe (next.betweenSteps (by simp [waiting]))
  iterate 3 exact missTick_runSafe next
  iterate 2 exact next

/-- A start trigger of the line finds the monitor idle, start source LEVEL alone running it (R22, R56). -/
theorem edgeReport_runSafe {s : State} (safe : RunSafe s) : RunSafe (edgeReport s) := by
  obtain same | ⟨armed, line, starts⟩ | ⟨paused, -, releases⟩ | ⟨active, triggered, -, stops⟩ := edgeReport_cases s
  · rw [same]; exact safe
  · rw [starts]
    exact startTrigger_runSafe (safe.armed_nothingInFlight armed (safe.monitor_idle (by simp [line])))
  · rw [releases]
    exact releasePause_runSafe (safe.betweenSteps (by simp [paused]))
      (safe.markerRoom (by simp [paused, AcqState.inPass]))
  · rw [stops]; exact runStop_runSafe .line safe active triggered

theorem patternReport_runSafe {s : State} (safe : RunSafe s) : RunSafe (patternReport s) := by
  obtain same | ⟨armed, pattern, starts⟩ | ⟨active, triggered, -, stops⟩ := patternReport_cases s
  · rw [same]; exact safe
  · rw [starts]
    exact startTrigger_runSafe (safe.armed_nothingInFlight armed (safe.monitor_idle (by simp [pattern])))
  · rw [stops]; exact runStop_runSafe .pattern safe active triggered

theorem keepLineSample_sameAccord (s : State) : SameAccord s (keepLineSample s) := ⟨by constructor <;> simp, by simp⟩

theorem keepPatternSample_sameAccord (s : State) : SameAccord s (keepPatternSample s) :=
  ⟨by constructor <;> simp, by simp⟩

theorem raise_sameAccord (f : Flag) (s : State) : SameAccord s (raise f s) := ⟨by constructor <;> simp, by simp⟩

section Samples

variable {s : State} (safe : RunSafe s)

include safe

theorem reportEdge_runSafe : RunSafe (edgeReport (keepLineSample s)) :=
  edgeReport_runSafe (safe.follow (keepLineSample_sameAccord s))

theorem reportPattern_runSafe : RunSafe (patternReport (raise .pattern (keepPatternSample s))) :=
  patternReport_runSafe (safe.follow ((keepPatternSample_sameAccord s).trans (raise_sameAccord _ _)))

theorem sampleLine_runSafe : RunSafe (sampleLine s) := by
  unfold sampleLine
  split_ifs
  · exact reportEdge_runSafe safe
  · exact safe.follow (keepLineSample_sameAccord s)

theorem samplePattern_runSafe : RunSafe (samplePattern s) := by
  unfold samplePattern
  split_ifs
  · exact reportPattern_runSafe safe
  · exact safe.follow (keepPatternSample_sameAccord s)

end Samples

/-! ## The events of the Converter and of a map check -/

/-- Every ideal code lies in 0 to 16383 (R68). -/
theorem bipolarCode_le (r v : Int) : (bipolarCode r v).1 ≤ 16383 := by
  unfold bipolarCode
  split_ifs with below above
  · exact Nat.zero_le _
  · exact le_refl _
  · have part : v * 8192 / r < 8192 := Int.ediv_lt_of_lt_mul (by omega) (by omega)
    dsimp only
    omega

theorem unipolarCode_le (v : Int) : (unipolarCode v).1 ≤ 16383 := by
  unfold unipolarCode Config.volt
  split_ifs with below above
  · exact Nat.zero_le _
  · exact le_refl _
  · dsimp only
    omega

theorem convert_le (range : Range) (v : Int) : (convert range v).1 ≤ 16383 := by
  cases range with
  | bip10 => exact bipolarCode_le _ v
  | bip5 => exact bipolarCode_le _ v
  | bip2 => exact bipolarCode_le _ v
  | uni10 => exact unipolarCode_le v

section Conversion

variable {s : State} {c : Claim} (claim : s.cv.claim = some c) (safe : RunSafe s)

include claim safe

theorem afterConversion_sum : c.afterConversion.sum ≤ 16383 * c.afterConversion.done := by
  have sum := (safe.sums c claim).2
  have code := convert_le c.range c.input
  simp only [Claim.afterConversion]
  omega

/-- The claim goes on to its next conversion, held by the same claimant (R66, R70). -/
theorem continues_runSafe {next : Claim} (holder : next.claimant = c.claimant) (more : next.done < next.asked.count)
    (sum : next.sum ≤ 16383 * next.done) : RunSafe { s with cv.claim := some next } := by
  have held (k : Claimant) :
      (∃ d, some next = some d ∧ d.claimant = k) ↔ ∃ d, s.cv.claim = some d ∧ d.claimant = k := by
    simp [claim, holder]
  exact { safe with
    stepClaim := (held .step).trans safe.stepClaim
    monitorClaim := (held .monitor).trans safe.monitorClaim
    sampleClaim := (held .sample).trans safe.sampleClaim
    sums := fun d same => by cases same; exact ⟨more, sum⟩ }

/-- A step's claim completes in its conversions, and nothing else was in flight (R28, R72). -/
theorem completeStep_runSafe (step : c.claimant = .step) (raw : Nat) (ovr : Bool) :
    RunSafe (completeStep raw ovr { s with cv.claim := none }) := by
  have converting : s.seq.state = .running .converting := safe.stepClaim.mp ⟨c, claim, step⟩
  have free : NothingInFlight { s with cv.claim := none } :=
    ⟨safe.capacity, safe.unheld (by simp [converting]), rfl, safe.monitor_idle (by simp [converting]),
      safe.unsampled (by simp [converting]), safe.oneAtATime⟩
  have room : State.MarkerRoom { s with cv.claim := none } :=
    safe.markerRoom (by simp [converting, AcqState.inPass])
  have zoned (t : State) : SameAccord t (updateZone raw t) := by
    unfold updateZone
    dsimp only
    split_ifs <;> exact ⟨by constructor <;> simp, by simp⟩
  exact offerSample_runSafe _ (free.follow (zoned _).flight) ((zoned _).markerRoom room)

/-- A monitor's claim completes in ARMED: the monitor times on, or goes idle with the start trigger (R57). -/
theorem completeMonitor_runSafe (monitor : c.claimant = .monitor) (raw : Nat) :
    RunSafe (completeMonitor raw { s with cv.claim := none }) := by
  have converting : s.tu.monitor = .converting := safe.monitorClaim.mp ⟨c, claim, monitor⟩
  obtain ⟨armed, level⟩ := safe.monitor (by simp [converting])
  have unsampled := safe.unsampled (by simp [armed])
  have times (seen : Bool) :
      RunSafe { s with cv.claim := none, tu.monitor := .timing, tu.seenFalse := seen } := { safe with
    stepClaim := by simp [armed]
    monitorClaim := by simp
    sampleClaim := by simpa using not_converting unsampled
    monitor := fun _ => ⟨armed, level⟩
    sums := nofun }
  have idle : NothingInFlight { s with cv.claim := none, tu.monitor := .idle, tu.monitorTimer := none } :=
    ⟨safe.capacity, safe.unheld (by simp [armed]), rfl, rfl, unsampled, safe.oneAtATime⟩
  unfold completeMonitor
  dsimp only
  split_ifs
  · exact times true
  · exact times s.tu.seenFalse
  · exact startTrigger_runSafe idle

/-- A SAMPLE's claim completes with the reply that ends its service (R75, R76). -/
theorem completeSample_runSafe (sample : c.claimant = .sample) (raw : Nat) (ovr : Bool) :
    RunSafe (completeSample raw ovr { s with cv.claim := none }) := by
  obtain ⟨tag, f, din, converting⟩ := safe.sampleClaim.mp ⟨c, claim, sample⟩
  have stopped : s.seq.state = .stopped := safe.sampling (by rw [converting]; trivial)
  rw [completeSample_converting (s := { s with cv.claim := none }) converting, finishService_eq]
  have free : NothingInFlight { s with cv.claim := none, lp.service := .idle } :=
    ⟨safe.capacity, safe.unheld (by simp [stopped]), rfl, safe.monitor_idle (by simp [stopped]), id, nofun⟩
  exact (free.follow (by constructor <;> simp)).runSafe (by simp [stopped, AcqState.inPass]) (by simp [stopped])
    (by simp [stopped])

theorem endConversion_runSafe : RunSafe (endConversion c s) := by
  unfold endConversion
  split_ifs with more
  · exact continues_runSafe claim safe rfl more (afterConversion_sum claim safe)
  · unfold completeClaim
    dsimp only
    cases claimant : c.afterConversion.claimant with
    | step => exact completeStep_runSafe claim safe claimant _ _
    | monitor => exact completeMonitor_runSafe claim safe claimant _
    | sample => exact completeSample_runSafe claim safe claimant _ _

end Conversion

/-- In TIMING nothing holds the Converter, and the monitor takes it (R56, R72). -/
theorem expireMonitorInterval_runSafe {s : State} (safe : RunSafe s) (timing : s.tu.monitor = .timing) :
    RunSafe (expireMonitorInterval s) := by
  obtain ⟨armed, level⟩ := safe.monitor (by simp [timing])
  have unsampled := safe.unsampled (by simp [armed])
  exact { safe with
    stepClaim := by simp [expireMonitorInterval, claimConverter, armed]
    monitorClaim := by simp [expireMonitorInterval, claimConverter]
    sampleClaim := by simpa [expireMonitorInterval, claimConverter] using not_converting unsampled
    monitor := fun _ => ⟨armed, level⟩
    sums := fun _ claim => claimConverter_sums claim }

/-- A SAMPLE takes the Converter in STOPPED, where nothing holds it (R72, R75). -/
theorem sampleSettled_runSafe {s : State} {tag : Byte} {f : SampleFields} (safe : RunSafe s)
    (settled : s.lp.service = .sampleSettling tag f 0) :
    RunSafe { claimConverter .sample f.channel f.range f.averaging s with
      lp.service := .sampleConverting tag f s.pins.din } := by
  have stopped : s.seq.state = .stopped := safe.sampling (by rw [settled]; trivial)
  have idle : s.tu.monitor = .idle := safe.monitor_idle (by simp [stopped])
  have empty : s.lp.reply = none := safe.oneAtATime (by simp [settled])
  exact { safe with
    stepClaim := by simp [claimConverter, stopped]
    monitorClaim := by simp [claimConverter, idle]
    sampleClaim := by simp [claimConverter]
    sampling := fun _ => stopped
    sums := fun _ claim => claimConverter_sums claim
    oneAtATime := fun _ => empty }

/-- A check's completion ends the service of a MAP COMMIT, which held no claim (R114). -/
theorem completeCheck_runSafe {s : State} {tag : Byte} {expected : BitVec 32} (safe : RunSafe s)
    (commit : s.lp.service = .commit tag expected) (i : Fin 16) (h : Half) :
    RunSafe (completeCheck i h tag expected s) := by
  have ended : RunSafe { s with lp.service := .idle } := { safe with
    sampleClaim := by simpa [commit] using safe.sampleClaim
    sampling := False.elim
    oneAtATime := nofun }
  unfold completeCheck
  dsimp only
  rw [finishService_eq]
  exact ended.follow ⟨by constructor <;> simp [putPage], by simp [putPage]⟩

/-! ## A microsecond -/

/-- A microsecond counts a claim's time and a SAMPLE's settle; who holds what stands (R70, R75). -/
theorem advance_runSafe {s : State} (safe : RunSafe s) : RunSafe (advance s) := by
  have held (k : Claimant) : (∃ c, s.cv.tick.claim = some c ∧ c.claimant = k) ↔
      ∃ c, s.cv.claim = some c ∧ c.claimant = k := by
    unfold Converter.tick
    cases s.cv.claim <;> simp
  have converting : (∃ tag f din, s.lp.service.tick = .sampleConverting tag f din) ↔
      ∃ tag f din, s.lp.service = .sampleConverting tag f din := by
    cases s.lp.service <;> simp [Service.tick]
  have sampling : s.lp.service.tick.sampling ↔ s.lp.service.sampling := by
    cases s.lp.service <;> simp [Service.tick, Service.sampling]
  have busy : s.lp.service.tick ≠ .idle ↔ s.lp.service ≠ .idle := by
    cases s.lp.service <;> simp [Service.tick]
  exact {
    capacity := safe.capacity
    markerPlace := safe.markerPlace
    held := safe.held
    discard := safe.discard
    stepClaim := (held .step).trans safe.stepClaim
    monitorClaim := (held .monitor).trans safe.monitorClaim
    sampleClaim := ((held .sample).trans safe.sampleClaim).trans converting.symm
    monitor := safe.monitor
    sampling := fun samples => safe.sampling (sampling.mp samples)
    sums := fun c claim => by
      obtain ⟨d, found, rfl⟩ := Option.map_eq_some_iff.mp claim
      exact safe.sums d found
    oneAtATime := fun serves => by
      change s.lp.reply.map _ = none
      rw [safe.oneAtATime (busy.mp serves)]
      rfl }

/-- The power-on values are those of the reset state, whatever the pins (R183). -/
theorem powerOnReset_runSafe (s : State) : RunSafe (powerOnReset s) := by
  obtain ⟨capacity, place, held, discard, step, monitor, sample, watches, sampling, sums, oneAtATime⟩ := runSafe_reset
  exact ⟨capacity, place, held, discard, step, monitor, sample, watches, sampling, sums, oneAtATime⟩

theorem tick_runSafe {s : State} (safe : RunSafe s) : RunSafe (tick s) := by
  have arrived : SameAccord s (arrive s) := by
    unfold arrive
    split <;> exact ⟨by constructor <;> simp, by simp⟩
  unfold tick
  dsimp only
  split_ifs
  · exact (advance_runSafe (safe.follow arrived)).follow ⟨by constructor <;> simp, by simp⟩
  · exact (powerOnReset_runSafe (arrive s)).follow ⟨by constructor <;> simp, by simp⟩

/-! ## Every command and every step -/

/-- The command answers a next state in which queue, held slot and claims agree with the sequencer. -/
def AnswersRunSafe (c : Instr) (s : State) : Prop := ∃ t, exec c s = .next t ∧ RunSafe t

namespace AnswersRunSafe

variable {c : Instr} {s t : State} (safe : RunSafe s)

include safe

theorem of_follow (meaning : exec c s = .next t) (same : SameAccord s t) : AnswersRunSafe c s :=
  ⟨t, meaning, safe.follow same⟩

/-- An event that acts where it is due and else changes nothing (log 1). -/
theorem of_due {due : Prop} {_ : Decidable due} (meaning : exec c s = .next (if due then t else s))
    (acts : due → RunSafe t) : AnswersRunSafe c s := by
  refine ⟨_, meaning, ?_⟩
  split_ifs with h
  · exact acts h
  · exact safe

variable {kind tag : Byte} {body : List Byte} {lengthOk : Bool} {owner : State → State}

theorem of_serve (meaning : exec c s = .next (serve kind tag body lengthOk owner s))
    (owned : ∀ t, t.lp.service = .idle → t.lp.reply = none → RunSafe t → RunSafe (owner t)) : AnswersRunSafe c s :=
  ⟨_, meaning, serve_runSafe safe owned⟩

theorem of_keeps (meaning : exec c s = .next (serve kind tag body lengthOk owner s)) (keeps : KeepsAccord owner) :
    AnswersRunSafe c s :=
  of_serve safe meaning fun t free _ there => there.follow (keeps t free)

theorem of_quiet {request : Byte → List Byte → State → State}
    (meaning : exec c s = .next (serve kind tag body lengthOk (request tag body) s))
    (quiet : request ∈ quietOwners) : AnswersRunSafe c s :=
  of_keeps safe meaning (quietOwners_keepAccord _ quiet tag body)

end AnswersRunSafe

section Events

variable {s : State} (safe : RunSafe s)

include safe

theorem unknownKind_answersRunSafe (kind tag : Byte) (body : List Byte) :
    AnswersRunSafe (.unknownKind kind tag body) s := by
  refine ⟨_, rfl, ?_⟩
  split_ifs
  · exact safe
  · exact serve_runSafe safe fun _ free _ there => there.refused tag free _ _

theorem frameComplete_answersRunSafe (chk : Byte) : AnswersRunSafe (.frameComplete chk) s := by
  refine .of_follow safe rfl ?_
  split <;> exact ⟨by constructor <;> simp, by simp⟩

theorem framingError_answersRunSafe : AnswersRunSafe .framingError s := by
  refine .of_follow safe rfl ?_
  split_ifs <;> exact ⟨by constructor <;> simp, by simp⟩

theorem replyByteSent_answersRunSafe : AnswersRunSafe .replyByteSent s := by
  refine ⟨_, rfl, ?_⟩
  split
  · rename_i r sends
    split_ifs
    · exact cutReply_runSafe sends safe
    iterate 2 exact safe.resends sends _
    · exact safe
  · exact safe

theorem replySent_answersRunSafe : AnswersRunSafe .replySent s := by
  refine ⟨_, rfl, ?_⟩
  split
  · rename_i r sends
    split_ifs
    · exact cutReply_runSafe sends safe
    · exact endReply_runSafe sends safe
    · exact safe
  · exact safe

theorem holdnRelease_answersRunSafe : AnswersRunSafe .holdnRelease s := by
  refine ⟨_, rfl, ?_⟩
  split
  · rename_i r sends
    split_ifs
    · exact safe.resends sends _
    · exact safe
  · exact safe

theorem settleExpiry_answersRunSafe : AnswersRunSafe .settleExpiry s := by
  refine .of_due safe rfl fun due => expireSettle_runSafe safe ?_
  simp only [State.settleDue, Bool.and_eq_true, decide_eq_true_eq] at due
  exact due.1

theorem monitorIntervalExpiry_answersRunSafe : AnswersRunSafe .monitorIntervalExpiry s := by
  refine .of_due safe rfl fun due => expireMonitorInterval_runSafe safe ?_
  simp only [State.monitorDue, Bool.and_eq_true, decide_eq_true_eq] at due
  exact due.1

theorem conversionEnd_answersRunSafe : AnswersRunSafe .conversionEnd s := by
  refine ⟨_, rfl, ?_⟩
  split
  · rename_i c claim
    split_ifs
    · exact endConversion_runSafe claim safe
    · exact safe
  · exact safe

theorem sampleSettleExpiry_answersRunSafe : AnswersRunSafe .sampleSettleExpiry s := by
  refine ⟨_, rfl, ?_⟩
  split
  · rename_i settled
    exact sampleSettled_runSafe safe settled
  · exact safe

theorem unitBAbsorb_answersRunSafe : AnswersRunSafe .unitBAbsorb s := by
  refine .of_follow safe rfl ?_
  split
  · split_ifs
    · exact ⟨by constructor <;> simp [absorbEntry], by simp [absorbEntry]⟩
    · exact .refl s
  · exact .refl s

theorem mapCommitCompletion_answersRunSafe : AnswersRunSafe .mapCommitCompletion s := by
  refine ⟨_, rfl, ?_⟩
  split
  · rename_i commit
    split_ifs
    · exact completeCheck_runSafe safe commit _ _
    · exact safe
  · exact safe

/-- Every command: the requests by their owners, the events by what they do where due. -/
theorem exec_answersRunSafe (c : Instr) : AnswersRunSafe c s := by
  cases c with
  | identify tag body => exact .of_keeps safe rfl (ack_keepsAccord _ _ _)
  | status tag body => exact .of_keeps safe rfl fun t => ack_keepsAccord _ _ _ t
  | clear tag body => exact .of_serve safe rfl fun _ free _ => clearRequest_runSafe tag body free
  | emptyQueue tag mask => exact .of_serve safe rfl fun _ free _ there => clearOwner_runSafe tag free there mask _
  | eraseProgram tag mask => exact .of_serve safe rfl fun _ free _ there => clearOwner_runSafe tag free there mask _
  | eraseMaps tag mask => exact .of_serve safe rfl fun _ free _ there => clearOwner_runSafe tag free there mask _
  | restOutputs tag mask => exact .of_serve safe rfl fun _ free _ there => clearOwner_runSafe tag free there mask _
  | attentionSet tag body => exact .of_quiet safe rfl (by simp [quietOwners])
  | reset tag body => exact .of_keeps safe rfl (ack_keepsAccord _ _ _)
  | programLoad tag body => exact .of_quiet safe rfl (by simp [quietOwners])
  | programTrim tag body => exact .of_quiet safe rfl (by simp [quietOwners])
  | programRead tag body => exact .of_quiet safe rfl (by simp [quietOwners])
  | triggerSet tag body => exact .of_quiet safe rfl (by simp [quietOwners])
  | outputSet tag body => exact .of_quiet safe rfl (by simp [quietOwners])
  | arm tag body => exact .of_serve safe rfl fun _ free _ => armRequest_runSafe tag body free
  | stop tag body => exact .of_serve safe rfl fun _ free _ => stopRequest_runSafe tag free
  | resume tag body => exact .of_serve safe rfl fun _ free _ => resumeRequest_runSafe tag free
  | sample tag body =>
    exact .of_serve safe rfl fun _ free empty there => sampleRequest_runSafe tag body free there empty
  | profileSet tag body => exact .of_quiet safe rfl (by simp [quietOwners])
  | profileRead tag body => exact .of_quiet safe rfl (by simp [quietOwners])
  | substituteSet tag body => exact .of_quiet safe rfl (by simp [quietOwners])
  | mapLoad tag body => exact .of_quiet safe rfl (by simp [quietOwners])
  | mapCommit tag body =>
    exact .of_serve safe rfl fun _ free empty there => mapCommitRequest_runSafe tag body free there empty
  | mapSwap tag body => exact .of_quiet safe rfl (by simp [quietOwners])
  | mapRead tag body => exact .of_quiet safe rfl (by simp [quietOwners])
  | checkSet tag body => exact .of_keeps safe rfl (checkSetRequest_keepsAccord tag body)
  | drain tag body => exact .of_serve safe rfl fun _ free _ => drainRequest_runSafe tag body free
  | unknownKind kind tag body => exact unknownKind_answersRunSafe safe kind tag body
  | frameComplete chk => exact frameComplete_answersRunSafe safe chk
  | lenError len => exact .of_due safe rfl fun _ => safe.follow ⟨by constructor <;> simp, by simp⟩
  | gapTimeout => exact .of_follow safe rfl ⟨by constructor <;> simp, by simp⟩
  | framingError => exact framingError_answersRunSafe safe
  | linkBreak =>
    have marked : SameAccord s (breakPort s) := ⟨by constructor <;> simp [breakPort], by simp [breakPort]⟩
    exact .of_due safe rfl fun _ => breakReply_runSafe (safe.follow marked)
  | breakEnd => exact .of_due safe rfl fun _ => safe.follow ⟨by constructor <;> simp, by simp⟩
  | replySent => exact replySent_answersRunSafe safe
  | holdnRelease => exact holdnRelease_answersRunSafe safe
  | powerOnReset => exact ⟨_, rfl, powerOnReset_runSafe s⟩
  | settleExpiry => exact settleExpiry_answersRunSafe safe
  | stepTimerExpiry => exact .of_due safe rfl fun _ => expireStepTimer_runSafe safe
  | pacerExpiry => exact .of_due safe rfl fun _ => expirePacer_runSafe safe
  | conversionEnd => exact conversionEnd_answersRunSafe safe
  | monitorIntervalExpiry => exact monitorIntervalExpiry_answersRunSafe safe
  | sampleSettleExpiry => exact sampleSettleExpiry_answersRunSafe safe
  | unitBAbsorb => exact unitBAbsorb_answersRunSafe safe
  | mapCommitCompletion => exact mapCommitCompletion_answersRunSafe safe
  | trigEdge => exact .of_due safe rfl fun _ => reportEdge_runSafe safe
  | patternEvent => exact .of_due safe rfl fun _ => reportPattern_runSafe safe
  | byteReceived byte => exact .of_follow safe rfl ⟨by constructor <;> simp, by simp⟩
  | replyByteSent => exact replyByteSent_answersRunSafe safe
  | comparatorSample => exact .of_due safe rfl fun _ => samplePattern_runSafe safe
  | lineWatcherSample => exact .of_due safe rfl fun _ => sampleLine_runSafe safe

end Events

/-- Settles O54: every command keeps the agreement (`exec_answersRunSafe`), and so does a microsecond. -/
theorem stepKeepsRunSafe : Obligations.StepKeepsRunSafe := by
  unfold Obligations.StepKeepsRunSafe
  intro s t safe steps
  exact step_keeps safe steps (fun _ _ here => here.follow ⟨by constructor <;> simp, by simp⟩)
    (fun c _ here => exec_answersRunSafe here c) fun _ here => tick_runSafe here

end Sys2Proof.Machine
end

section
/-! PROOFS. The Result Queue: appends, DRAIN and the layout of records, held records and their release, the actions of
CLEAR alone (O9, O31, O32, O44). -/

namespace Sys2Proof.Machine

/-! ## Appends (R132, R141) -/

/-- The absorption of a value and the level test of its record do not meet. -/
theorem levelTest_absorbA (before : Nat) (value : Word16) (s : State) :
    levelTest before (absorbA value s) = absorbA value (levelTest before s) := by
  unfold levelTest
  by_cases reached : before < s.rq.level ∧ s.rq.level ≤ s.count
  · rw [if_pos reached]; exact if_pos reached
  · rw [if_neg reached]; exact if_neg reached

theorem appendSample_withRecord (r : SampleRecord) (s : State) :
    appendSample r s =
      { s.withRecord (.sample r) with
        ck.a.residue := absorbWord s.ck.a.cfg s.ck.a.residue r.value
        seq.sampleCount := s.seq.sampleCount + 1 } := by
  rw [appendSample, levelTest_absorbA, append_withRecord]
  rfl

/-- Settles O44: the record joins by `append_withRecord`, and a sample's value is absorbed and counted. -/
theorem appendingASample : Obligations.AppendingASample := by
  unfold Obligations.AppendingASample
  exact ⟨fun s r => appendSample_withRecord r s, fun s status => appendMarker_withRecord status s⟩

/-! ## CLEAR of one action (R15, R63, R123, R153, R173) -/

/-- The body of a CLEAR is read as it was laid out. -/
theorem clearRequest_clearBody (tag : Byte) (mask : BitVec 16) (actions : Byte) :
    clearRequest tag (clearBody mask actions) = clearOwner tag mask actions := by
  funext s
  show clearOwner tag (BitVec.ofNat 16 (num16 _ _)) actions s = _
  rw [num16_bytes mask.isLt, BitVec.ofNat_toNat, BitVec.setWidth_eq]

/-- The CLEAR that names one action is the service of that action (log 3). -/
theorem exec_clear_clearBody (tag : Byte) (mask : BitVec 16) (actions : Byte) (s : State) :
    exec (.clear tag (clearBody mask actions)) s =
      .next (serve kindClear tag (clearBody mask actions) true (clearOwner tag mask actions) s) := by
  rw [← clearRequest_clearBody]
  rfl

/-- An action set that names an action other than EMPTY_QUEUE, which is for STOPPED alone (R173). -/
def erasing (actions : Byte) : Bool := actions.getLsbD 1 || actions.getLsbD 2 || actions.getLsbD 3

section Clear

variable {s : State} {tag : Byte} {mask : BitVec 16} {actions : Byte} {rest : List Frame} {c : Instr}
  (ready : s.ready ⟨0x03, tag, clearBody mask actions⟩ rest) (masked : mask.toNat < 16384)
  (serves : exec c s = .next (serve kindClear tag (clearBody mask actions) true (clearOwner tag mask actions) s))

include ready masked serves

/-- In an active state a CLEAR that erases is BUSY. -/
theorem exec_action_busy (named : actions.toNat < 16) (erases : erasing actions = true)
    (active : s.seq.state ≠ .stopped) : exec c s = .next (declined rest 0x03 tag .busy s) := by
  have good : ¬ (16384 ≤ mask.toNat ∨ 16 ≤ actions.toNat) := by omega
  have busy : ((s.awaiting rest).active && erasing actions) = true := by
    rw [erases, Bool.and_true]; exact active_of_ne active
  exact (owner_serves ready serves rfl).trans (congrArg _ ((if_neg good).trans (if_pos busy)))

/-- Else the flags are cleared, the actions are taken, and the ACK carries the flags. -/
theorem exec_action_acts (named : actions.toNat < 16)
    (allowed : s.seq.state = .stopped ∨ erasing actions = false) :
    let cleared := clearActions actions (clearFlags (mask.setWidth 14) (s.awaiting rest))
    exec c s = .next (ack kindClear tag cleared.flagBytes cleared) := by
  have good : ¬ (16384 ≤ mask.toNat ∨ 16 ≤ actions.toNat) := by omega
  have free : ¬ ((s.awaiting rest).active && erasing actions) = true := by
    obtain stopped | harmless := allowed
    · rw [show (s.awaiting rest).active = false from inactive_of_eq stopped, Bool.false_and]; nofun
    · rw [harmless, Bool.and_false]; nofun
  exact (owner_serves ready serves rfl).trans (congrArg _ ((if_neg good).trans (if_neg free)))

end Clear

/-- Settles O9: each action as the CLEAR that names it, and what that CLEAR does. -/
theorem singleActionsOfClear : Obligations.SingleActionsOfClear := by
  unfold Obligations.SingleActionsOfClear
  refine ⟨fun s tag mask => ?_, fun s tag mask rest masked => ?_⟩
  · have same (actions : Byte) := (exec_clear_clearBody tag mask actions s).symm
    exact ⟨same 0x01, same 0x02, same 0x04, same 0x08⟩
  · refine ⟨fun ready nothing => ?_,
      fun ready => ⟨fun stopped => ?_, exec_action_busy ready masked rfl (by decide) rfl⟩,
      fun ready => ⟨fun stopped => ?_, exec_action_busy ready masked rfl (by decide) rfl⟩,
      fun ready => ⟨fun stopped => ?_, exec_action_busy ready masked rfl (by decide) rfl⟩⟩
    · have emptied : clearActions 0x01 (clearFlags (mask.setWidth 14) (s.awaiting rest)) = _ :=
        emptyQueueAction_none (s := clearFlags (mask.setWidth 14) (s.awaiting rest)) nothing
      rw [exec_action_acts ready masked rfl (by decide) (.inr rfl), emptied]
      rfl
    iterate 3 exact exec_action_acts ready masked rfl (by decide) (.inl stopped)

/-! ## The frames that wait are no part of a run -/

section Awaiting

variable (frames : List Frame) (s : State)

theorem ite_awaiting {p : Prop} [Decidable p] {a b t u : State} (yes : t = a.awaiting frames)
    (no : u = b.awaiting frames) : (if p then t else u) = (if p then a else b).awaiting frames := by
  split_ifs
  · exact yes
  · exact no

theorem appendSample_awaiting (r : SampleRecord) :
    appendSample r (s.awaiting frames) = (appendSample r s).awaiting frames := by
  rw [appendSample_withRecord, appendSample_withRecord]; rfl

theorem appendMarker_awaiting (status : MarkerStatus) :
    appendMarker status (s.awaiting frames) = (appendMarker status s).awaiting frames := by
  rw [appendMarker_withRecord, appendMarker_withRecord]; rfl

theorem enterStopped_awaiting (cause : EndCause) :
    enterStopped cause (s.awaiting frames) = (enterStopped cause s).awaiting frames := by
  unfold enterStopped stopTriggers
  dsimp only
  rw [abandonClaim_filter, abandonClaim_filter]
  split_ifs <;> rfl

theorem runStop_awaiting (cause : EndCause) :
    runStop cause (s.awaiting frames) = (runStop cause s).awaiting frames := by
  unfold runStop
  rw [discardHeld_abandonStep, discardHeld_abandonStep]
  dsimp only
  rw [← enterStopped_awaiting]
  refine congrArg _ (ite_awaiting frames ?_ ?_)
  · exact appendMarker_awaiting frames s.withoutStep .aborted
  · rfl

theorem nextStep_awaiting : nextStep (s.awaiting frames) = (nextStep s).awaiting frames :=
  stepBegin_awaiting frames { s with seq := { s.seq with stepIndex := s.seq.stepIndex + 1, pauseMark := false } }

theorem passContinue_awaiting (stopCause : Bool) :
    passContinue stopCause (s.awaiting frames) = (passContinue stopCause s).awaiting frames := by
  unfold passContinue
  refine ite_awaiting frames (enterStopped_awaiting frames s _) (ite_awaiting frames (enterStopped_awaiting frames s _)
    (ite_awaiting frames (passStart_awaiting frames s) rfl))

theorem passEnd_awaiting (stopCause : Bool) :
    passEnd stopCause (s.awaiting frames) = (passEnd stopCause s).awaiting frames := by
  unfold passEnd
  rw [appendMarker_awaiting, ← passContinue_awaiting]
  rfl

/-- What follows an append is alike whatever frames wait (R29). -/
theorem afterAppend_awaiting (stopCause : Bool) :
    afterAppend stopCause (s.awaiting frames) = (afterAppend stopCause s).awaiting frames := by
  unfold afterAppend
  exact ite_awaiting frames (runStop_awaiting frames s _) (ite_awaiting frames (passEnd_awaiting frames s _)
    (ite_awaiting frames (nextStep_awaiting frames s) rfl))

theorem appended_awaiting (o : Offer) :
    afterAppend o.stopCause (appendSample o.record (s.awaiting frames)) =
      (afterAppend o.stopCause (appendSample o.record s)).awaiting frames := by
  rw [appendSample_awaiting, afterAppend_awaiting]

/-- A reply to an append, in the vocabulary of the statements. -/
theorem ack_appended_awaiting (o : Offer) (kind tag : Byte) (body : List Byte) :
    ack kind tag body (afterAppend o.stopCause (appendSample o.record (s.awaiting frames))) =
      answered frames (kind + 0x80) tag body (afterAppend o.stopCause (appendSample o.record s)) := by
  rw [appended_awaiting]; rfl

end Awaiting

/-! ## A held record and its release (R31, R32, R144) -/

theorem releaseHeld_none {s : State} (nothing : s.rq.held = none) : releaseHeld s = s := by
  simp only [releaseHeld, nothing]

theorem releaseHeld_below {s : State} {o : Offer} (held : s.rq.held = some o) (below : s.rq.records.length < 1023) :
    releaseHeld s = afterAppend o.stopCause (appendSample o.record { s with rq.held := none }) := by
  simp only [releaseHeld, held]
  exact if_pos below

theorem releaseHeld_above {s : State} (above : 1023 ≤ s.rq.records.length) : releaseHeld s = s := by
  unfold releaseHeld
  split
  · exact if_neg (Nat.not_lt.mpr above)
  · rfl

/-- EMPTY_QUEUE leaves no record, so it releases the held one (R144, R153). -/
theorem emptyQueueAction_held {s : State} {o : Offer} (held : s.rq.held = some o) :
    emptyQueueAction s =
      afterAppend o.stopCause
        (appendSample o.record { s with rq.records := [], rq.lossMark := false, rq.held := none }) :=
  releaseHeld_below (s := { s with rq.records := [], rq.lossMark := false }) held (by simp)

theorem offerSample_holds {s : State} (o : Offer) (halt : s.rq.policy = .halt) (full : 1023 ≤ s.rq.records.length) :
    offerSample o s =
      { s with seq.state := .halted, rq.held := some o, lp.flags := s.lp.flags ||| Flag.halted.bit } :=
  if_pos ⟨halt, full⟩

theorem offerSample_appends {s : State} (o : Offer) (room : s.rq.policy = .discard ∨ s.rq.records.length < 1023) :
    offerSample o s = afterAppend o.stopCause (appendSample o.record s) := by
  refine if_neg ?_
  rintro ⟨halt, full⟩
  obtain discard | below := room
  · cases halt.symm.trans discard
  · exact absurd full (Nat.not_le.mpr below)

/-! ## DRAIN (R147, R150) -/

section Drain

variable {s : State} (tag : Byte) {n : Byte}

theorem drainRequest_badField (outside : n.toNat = 0 ∨ 16 < n.toNat) :
    drainRequest tag [n] s = refuse kindDrain tag .badField s := if_pos outside

theorem drainRequest_delivers (least : 1 ≤ n.toNat) (most : n.toNat ≤ 16) :
    drainRequest tag [n] s = ack kindDrain tag (drainBody n.toNat s) (releaseHeld (removeRecords n.toNat s)) :=
  if_neg (by omega)

end Drain

/-- The body of the ACK in the vocabulary of the statements (R150, 10.8). -/
theorem drainBody_eq (n : Nat) (s : State) :
    drainBody n s = drainReply s.rq.lossMark (s.rq.records.length - n) (s.rq.records.take n) := by
  have left : (removeRecords n s).count = s.rq.records.length - n := List.length_drop
  rw [drainBody, left]
  cases s.rq.records.take n <;> rfl

/-- What is left after a removal of at least one record from a queue that has one (R147). -/
theorem removeRecords_eq {n : Nat} (least : 1 ≤ n) (s : State) :
    removeRecords n s =
      { s with rq.records := s.rq.records.drop n, rq.lossMark := s.rq.lossMark && s.rq.records.isEmpty } := by
  have same : (s.rq.records.take n).isEmpty = s.rq.records.isEmpty := by
    cases s.rq.records with
    | nil => simp
    | cons r rest => simp; omega
  rw [removeRecords, same]

theorem removeRecords_nil {s : State} (empty : s.rq.records = []) (n : Nat) : removeRecords n s = s := by
  simp only [removeRecords, empty, List.drop_nil, List.take_nil, List.isEmpty_nil, Bool.and_true]
  rw [← empty]

/-! ## The layout of records (TABLES 10.11 to 10.13) -/

/-- The presence byte: the source in its low five bits, and which parts follow (TABLE 10.12). -/
theorem presence_bits (source : Fin 32) (raw digital stamp : Bool) :
    let presence : Byte := BitVec.ofNat 8 (source.val + bitAt 5 raw + bitAt 6 digital + bitAt 7 stamp)
    presence.toNat % 32 = source.val ∧ presence.getLsbD 5 = raw ∧ presence.getLsbD 6 = digital ∧
      presence.getLsbD 7 = stamp := by
  revert source raw digital stamp
  decide

theorem recordFlags_bits (ovr high low overridden floor unmapped loss : Bool) :
    let flags := RecordFlags.byte { ovr, high, low, overridden, floor, unmapped, loss }
    flags.getLsbD 0 = ovr ∧ flags.getLsbD 1 = high ∧ flags.getLsbD 2 = low ∧ flags.getLsbD 3 = overridden ∧
      flags.getLsbD 4 = floor ∧ flags.getLsbD 5 = unmapped ∧ flags.getLsbD 6 = loss ∧ flags.getLsbD 7 = false := by
  revert ovr high low overridden floor unmapped loss
  decide

/-- A source's five bits: the channel, or 16 for DIGITAL (TABLE 10.12). -/
def RecordSource.code : RecordSource → Fin 32
  | .analog channel => ⟨channel.val, by omega⟩
  | .digital => 16

theorem RecordSource.code_val (source : RecordSource) :
    source.code.val = match source with | .analog channel => channel.val | .digital => 16 := by
  cases source <;> rfl

/-- A sample record's bytes over its presence byte (R181). -/
theorem sampleRecord_bytes (r : SampleRecord) :
    (Record.sample r).bytes =
      [0x01, BitVec.ofNat 8 r.step.val,
        BitVec.ofNat 8
          (r.source.code.val + bitAt 5 r.raw.isSome + bitAt 6 r.digital.isSome + bitAt 7 r.stamp.isSome)] ++
        bytesLE 2 r.value.toNat ++ [r.flags.byte] ++
        (match r.raw with | some c => bytesLE 2 c.toNat | none => []) ++
        (match r.digital with | some b => [b] | none => []) ++
        (match r.stamp with | some c => bytesLE 3 c.toNat | none => []) := by
  rw [r.source.code_val]; rfl

theorem bytesLE_length (n x : Nat) : (bytesLE n x).length = n := by
  induction n generalizing x with
  | zero => rfl
  | succ n ih => simp [bytesLE, ih]

theorem sampleRecord_length (r : SampleRecord) :
    (Record.sample r).bytes.length =
      6 + (if r.raw.isSome then 2 else 0) + (if r.digital.isSome then 1 else 0) +
        (if r.stamp.isSome then 3 else 0) := by
  rw [sampleRecord_bytes]
  cases r.raw <;> cases r.digital <;> cases r.stamp <;> simp [bytesLE_length]

/-- A pass marker's ten bytes (R182, TABLE 10.13). -/
theorem passMarker_bytes (m : PassMarker) :
    (Record.marker m).bytes =
      [0x02, BitVec.ofNat 8 ((if m.status = .aborted then 1 else 0) + if m.loss then 64 else 0)] ++
        bytesLE 2 m.passNumber.toNat ++ [BitVec.ofNat 8 m.sampleCount, m.missedTicks] ++ bytesLE 4 m.residue.toNat := by
  simp [Record.bytes, PassMarker.bytes, bitAt]

/-- Settles O31: DRAIN by its outcomes with nothing held, and the bytes of both kinds of record. -/
theorem drainRemovesTheOldestRecords : Obligations.DrainRemovesTheOldestRecords := by
  unfold Obligations.DrainRemovesTheOldestRecords
  refine ⟨fun s tag n rest ready => ?_, fun r => ?_, fun m => ?_, fun n => ?_⟩
  · have meaning : exec (.drain tag [n]) s = .next (drainRequest tag [n] (s.awaiting rest)) :=
      owner_serves ready rfl rfl
    rw [meaning]
    refine ⟨fun outside => ?_, fun least most nothing => ⟨fun empty => ?_, fun first others taken => ?_⟩⟩
    · exact congrArg _ (drainRequest_badField (s := s.awaiting rest) tag outside)
    · have nothing : (s.awaiting rest).rq.held = none := nothing
      have empty : (s.awaiting rest).rq.records = [] := empty
      rw [drainRequest_delivers tag least most, removeRecords_nil empty, releaseHeld_none nothing, drainBody_eq, empty]
      simp [drainReply, bytesLE]
      rfl
    · have nothing : (removeRecords n.toNat (s.awaiting rest)).rq.held = none := nothing
      have some_left : s.rq.records.isEmpty = false := by
        cases records : s.rq.records with
        | nil => rw [records] at taken; simp at taken
        | cons _ _ => rfl
      have size : others.length + 1 = min n.toNat s.rq.records.length := by
        rw [← List.length_take, taken, List.length_cons]
      have left : s.rq.records.length - n.toNat = s.rq.records.length - (others.length + 1) := by omega
      rw [drainRequest_delivers tag least most, releaseHeld_none nothing, removeRecords_eq least, drainBody_eq]
      dsimp only [State.awaiting]
      rw [taken, left, some_left, Bool.and_false]
      rfl
  · obtain ⟨step, source, value, ⟨ovr, high, low, overridden, floor, unmapped, loss⟩, raw, digital, stamp⟩ := r
    obtain ⟨five, parts⟩ := presence_bits source.code raw.isSome digital.isSome stamp.isSome
    obtain ⟨rawBit, digitalBit, stampBit⟩ := parts
    obtain ⟨f0, f1, f2, f3, f4, f5, f6, f7⟩ := recordFlags_bits ovr high low overridden floor unmapped loss
    exact ⟨_, _, sampleRecord_bytes _, five.trans source.code_val, rawBit, digitalBit, stampBit, f0, f1, f2, f3, f4, f5,
      f6, f7, sampleRecord_length _, rfl⟩
  · exact ⟨passMarker_bytes m, by rw [passMarker_bytes]; simp [bytesLE_length], rfl⟩
  · simp [bytesLE, Nat.div_div_eq_div_mul]

/-- Settles O32: a record offered, and the release of a held one by DRAIN and by EMPTY_QUEUE. -/
theorem heldRecordIsReleased : Obligations.HeldRecordIsReleased := by
  unfold Obligations.HeldRecordIsReleased
  refine ⟨fun s o => ⟨offerSample_holds o, offerSample_appends o⟩, fun s tag n rest o ready least most held => ?_,
    fun s tag mask rest o ready masked held => ?_⟩
  · intro drained body
    have meaning : exec (.drain tag [n]) s = .next (drainRequest tag [n] (s.awaiting rest)) :=
      owner_serves ready rfl rfl
    have removed : removeRecords n.toNat (s.awaiting rest) = drained.awaiting rest :=
      removeRecords_eq least (s.awaiting rest)
    have count : (drained.awaiting rest).rq.records.length = s.rq.records.length - n.toNat := List.length_drop
    rw [meaning, drainRequest_delivers tag least most, drainBody_eq, removed]
    refine ⟨fun below => ?_, fun above => ?_⟩
    · rw [releaseHeld_below (s := drained.awaiting rest) held (count ▸ below)]
      exact congrArg _ (ack_appended_awaiting rest { drained with rq.held := none } o kindDrain tag body)
    · rw [releaseHeld_above (count ▸ above)]
      rfl
  · intro t
    have emptied : clearActions 0x01 (clearFlags (mask.setWidth 14) (s.awaiting rest)) = t.awaiting rest :=
      (emptyQueueAction_held (s := clearFlags (mask.setWidth 14) (s.awaiting rest)) held).trans
        (appended_awaiting rest
          { s with rq.records := [], rq.lossMark := false, rq.held := none,
                   lp.flags := s.lp.flags &&& ~~~mask.setWidth 14 } o)
    rw [exec_action_acts ready masked rfl (by decide) (.inr rfl), emptied]
    rfl

end Sys2Proof.Machine
end

section
/-! PROOFS. What a command keeps of the Link Port and of the outside: the invariant of the port through the replies,
the receiver, the breaks and the transmitter. -/

namespace Sys2Proof.Machine

/-! ## What a command keeps -/

/-- What the invariant of the port speaks of stands, and the outside with the queue's rest. -/
structure SameLink (s t : State) : Prop where
  speed : t.lp.speed = s.lp.speed
  rx : t.lp.rx = s.lp.rx
  gap : t.lp.gap = s.lp.gap
  inBreak : t.lp.inBreak = s.lp.inBreak
  badStop : t.lp.badStop = s.lp.badStop
  sinceReset : t.lp.sinceReset = s.lp.sinceReset
  requests : t.lp.requests = s.lp.requests
  service : t.lp.service = s.lp.service
  abandoned : t.lp.abandoned = s.lp.abandoned
  reply : t.lp.reply = s.lp.reply
  outside : t.pins = s.pins ∧ t.coming = s.coming ∧ t.pending = s.pending

/-- The pins, the outside and the queue's rest stand (log 5), and a safe port is safe after it. -/
structure LinkKept (s t : State) : Prop where
  outside : t.pins = s.pins ∧ t.coming = s.coming ∧ t.pending = s.pending
  safe : LinkSafe s → LinkSafe t

theorem SameLink.refl (s : State) : SameLink s s := by constructor <;> simp

theorem SameLink.trans {s t u : State} (first : SameLink s t) (second : SameLink t u) : SameLink s u where
  speed := second.speed.trans first.speed
  rx := second.rx.trans first.rx
  gap := second.gap.trans first.gap
  inBreak := second.inBreak.trans first.inBreak
  badStop := second.badStop.trans first.badStop
  sinceReset := second.sinceReset.trans first.sinceReset
  requests := second.requests.trans first.requests
  service := second.service.trans first.service
  abandoned := second.abandoned.trans first.abandoned
  reply := second.reply.trans first.reply
  outside := by
    obtain ⟨pins, coming, pending⟩ := first.outside
    rw [← pins, ← coming, ← pending]
    exact second.outside

theorem LinkKept.refl (s : State) : LinkKept s s := ⟨⟨rfl, rfl, rfl⟩, id⟩

theorem LinkKept.trans {s t u : State} (first : LinkKept s t) (second : LinkKept t u) : LinkKept s u where
  outside := by
    obtain ⟨pins, coming, pending⟩ := first.outside
    rw [← pins, ← coming, ← pending]
    exact second.outside
  safe safe := second.safe (first.safe safe)

theorem LinkSafe.follow {s t : State} (safe : LinkSafe s) (same : SameLink s t) : LinkSafe t where
  slots := by rw [same.requests]; exact safe.slots
  bodies := by rw [same.requests]; exact safe.bodies
  receiver := by rw [same.rx]; exact safe.receiver
  gap := by rw [same.rx, same.gap]; exact safe.gap
  inBreak := by rw [same.inBreak, same.rx, same.badStop]; exact safe.inBreak
  sinceReset := by rw [same.sinceReset]; exact safe.sinceReset
  oneAtATime := by rw [same.service, same.reply]; exact safe.oneAtATime
  abandoned := by rw [same.abandoned, same.service]; exact safe.abandoned
  reply := by rw [same.reply, same.speed]; exact safe.reply

theorem SameLink.kept {s t : State} (same : SameLink s t) : LinkKept s t := ⟨same.outside, fun safe => safe.follow same⟩

/-! ## The reply buffer (R163 to R165) -/

/-- A transmission the invariant allows: a byte of it still to go out, its body within the envelope, its byte's clock
within ten bit times and a microsecond (R157, R165). -/
def Transmission.within (speed : Speed) (r : Transmission) : Prop :=
  r.sent < r.reply.size ∧ r.reply.body.length ≤ 240 ∧ r.clock < 10000000 + lineSpeed speed

/-- A reply about to go out. -/
theorem fresh_within {r : Frame} (fits : r.body.length ≤ 240) (speed : Speed) (waiting cut : Bool) :
    Transmission.within speed { reply := r, sent := 0, clock := 0, waiting, cut } :=
  ⟨Nat.succ_pos _, fits, Nat.add_pos_left (by decide) _⟩

section Reply

variable {s : State} (safe : LinkSafe s)

include safe

/-- While a reply is in the buffer no request is in service. -/
theorem LinkSafe.free_of_reply {r : Transmission} (sends : s.lp.reply = some r) : s.lp.service = .idle := by
  by_contra busy
  cases sends.symm.trans (safe.oneAtATime busy)

/-- A reply, new or another, where no request is in service. -/
theorem LinkSafe.replies (free : s.lp.service = .idle) {r : Transmission} (within : r.within s.lp.speed) :
    LinkSafe { s with lp.reply := some r } := { safe with
  oneAtATime := fun busy => absurd free busy
  reply := fun _ same => by cases same; exact within }

/-- The reply buffer empties. -/
theorem LinkSafe.emptied : LinkSafe { s with lp.reply := none } :=
  { safe with oneAtATime := fun _ => rfl, reply := nofun }

/-- A request that takes time enters service at an empty reply buffer, unmarked by a break (R163). -/
theorem LinkSafe.beginsService (service : Service) (free : s.lp.service = .idle) (empty : s.lp.reply = none) :
    LinkSafe { s with lp.service := service } := { safe with
  oneAtATime := fun _ => empty
  abandoned := fun marked => absurd free (safe.abandoned marked) }

end Reply

theorem putReply_kept {s : State} {r : Frame} (free : s.lp.service = .idle) (fits : r.body.length ≤ 240) :
    LinkKept s (putReply r s) :=
  ⟨by simp, fun safe => safe.replies free (fresh_within fits _ _ _)⟩

/-- The reply of a request that took time (R164, R168). -/
theorem finishService_kept (r : Frame) (s : State) (fits : r.body.length ≤ 240) : LinkKept s (finishService r s) := by
  refine ⟨by simp, fun safe => ?_⟩
  have ended : LinkSafe { s with lp.service := .idle, lp.abandoned := false } :=
    { safe with oneAtATime := fun busy => absurd rfl busy, abandoned := nofun }
  unfold finishService
  dsimp only
  split_ifs
  · exact ended
  · exact ended.replies rfl (fresh_within fits _ _ _)

/-! ## The receiver (R157 to R162) -/

section Receiver

variable {s : State} (safe : LinkSafe s)

include safe

theorem discardPartial_linkSafe : LinkSafe (discardPartial s) := { safe with
  receiver := trivial
  gap := ⟨fun _ => rfl, nofun⟩
  inBreak := fun breaks => ⟨rfl, (safe.inBreak breaks).2⟩ }

theorem linkError_linkSafe : LinkSafe (linkError s) :=
  (discardPartial_linkSafe safe).follow (by constructor <;> simp [linkError])

theorem judgeGap_linkSafe : LinkSafe (judgeGap s) := by
  unfold judgeGap
  split_ifs
  · exact linkError_linkSafe safe
  · exact safe

/-- A byte joins a frame outside a break (R158, R159, R167). -/
theorem keepByte_linkSafe {rx : Receiver} (quiet : s.lp.inBreak = false) (within : rx.within) (holds : rx ≠ .hunt) :
    LinkSafe (keepByte rx s) := { safe with
  receiver := within
  gap := ⟨fun hunts => absurd hunts holds, fun _ same => by cases same; exact Nat.zero_le _⟩
  inBreak := fun breaks => by cases quiet.symm.trans breaks }

/-- A frame the envelope can carry joins a buffer with a slot free (R161, R162). -/
theorem joinBuffer_linkSafe {f : Frame} (fits : f.body.length ≤ 240) : LinkSafe (joinBuffer f s) := by
  obtain room | full := Nat.lt_or_ge s.lp.requests.length 4
  · rw [joinBuffer_room room]
    exact { safe with
      slots := by simpa using room
      bodies := by simpa [or_imp, forall_and] using ⟨safe.bodies, fits⟩ }
  · rw [joinBuffer_full full]
    exact safe.follow (by constructor <;> simp)

theorem completeFrame_linkSafe {len kind tag chk : Byte} {taken : List Byte} (fits : taken.length ≤ 240) :
    LinkSafe (completeFrame len kind tag taken chk s) := by
  unfold completeFrame
  split_ifs
  · exact linkError_linkSafe safe
  · exact joinBuffer_linkSafe (discardPartial_linkSafe safe) fits

/-- Each byte leaves the receiver within the envelope, whatever its state (TABLE 9.3). -/
theorem takeByte_linkSafe (b : Byte) (quiet : s.lp.inBreak = false) : LinkSafe (takeByte b s) := by
  have within := safe.receiver
  unfold takeByte
  cases rx : s.lp.rx <;> rw [rx] at within <;> dsimp only
  case hunt =>
    split_ifs
    · exact keepByte_linkSafe safe quiet trivial nofun
    · exact safe
  case headerLen =>
    split_ifs with long
    · exact linkError_linkSafe safe
    · exact keepByte_linkSafe safe quiet (Nat.not_lt.mp long) nofun
  case headerKind len => exact keepByte_linkSafe safe quiet within nofun
  case headerTag len kind =>
    split_ifs with empty
    · exact keepByte_linkSafe safe quiet ⟨within, by rw [empty]; rfl⟩ nofun
    · have some_left : 0 < len.toNat := Nat.pos_of_ne_zero fun zero => empty (BitVec.eq_of_toNat_eq zero)
      exact keepByte_linkSafe safe quiet ⟨within, some_left⟩ nofun
  case body len kind tag taken =>
    obtain ⟨fits, more⟩ := within
    split_ifs with last
    · exact keepByte_linkSafe safe quiet ⟨fits, by simpa using last⟩ nofun
    · exact keepByte_linkSafe safe quiet ⟨fits, by rw [List.length_append, List.length_singleton]; omega⟩ nofun
  case check len kind tag taken =>
    obtain ⟨fits, whole⟩ := within
    exact completeFrame_linkSafe safe (whole ▸ fits)

end Receiver

theorem judgeGap_kept (s : State) : LinkKept s (judgeGap s) := ⟨by simp, judgeGap_linkSafe⟩

theorem receiveByte_kept (b : Byte) (s : State) : LinkKept s (receiveByte b s) := by
  refine ⟨by simp, fun safe => ?_⟩
  unfold receiveByte
  split_ifs with receives
  · have quiet : s.lp.inBreak = false := by
      simp only [State.receiving, State.listening, Bool.and_eq_true, Bool.not_eq_true'] at receives
      exact receives.1.1
    exact takeByte_linkSafe (judgeGap_linkSafe safe) b (by simpa using quiet)
  · exact safe

theorem framingError_kept (s : State) : LinkKept s (framingError s) := by
  refine ⟨by simp, fun safe => ?_⟩
  have risen : LinkSafe { s with lp.badStop := false } :=
    { safe with inBreak := fun breaks => ⟨(safe.inBreak breaks).1, rfl⟩ }
  unfold framingError
  dsimp only
  split_ifs
  · exact risen
  · exact linkError_linkSafe risen

/-! ## Breaks and the transmitter (R165 to R168) -/

theorem breakPort_kept (s : State) : LinkKept s (breakPort s) :=
  ⟨⟨rfl, rfl, rfl⟩, fun safe => { safe with
    slots := Nat.zero_le _
    bodies := nofun
    receiver := trivial
    gap := ⟨fun _ => rfl, nofun⟩
    inBreak := fun _ => ⟨rfl, rfl⟩
    abandoned := of_decide_eq_true }⟩

theorem resetEffect_sameLink (s : State) : SameLink s (resetEffect s) := by
  unfold resetEffect
  split_ifs <;> constructor <;> simp [resetBlocks, resetStop]

theorem endReply_kept (r : Transmission) (s : State) : LinkKept s (endReply r s) := by
  have emptied : LinkKept s { s with lp.reply := none } := ⟨⟨rfl, rfl, rfl⟩, LinkSafe.emptied⟩
  unfold endReply
  dsimp only
  split_ifs
  · exact emptied.trans (resetEffect_sameLink _).kept
  · exact emptied

theorem raise_sameLink (f : Flag) (s : State) : SameLink s (raise f s) := by constructor <;> simp

theorem cutReply_kept (r : Transmission) (s : State) : LinkKept s (cutReply r s) :=
  (endReply_kept r s).trans (raise_sameLink _ _).kept

/-- The reply being sent goes on. -/
theorem resends_kept {s : State} {r next : Transmission} (sends : s.lp.reply = some r)
    (within : r.within s.lp.speed → next.within s.lp.speed) : LinkKept s { s with lp.reply := some next } :=
  ⟨⟨rfl, rfl, rfl⟩, fun safe => safe.replies (safe.free_of_reply sends) (within (safe.reply r sends))⟩

theorem breakReply_kept (s : State) : LinkKept s (breakReply s) := by
  unfold breakReply
  split
  · exact (raise_sameLink _ _).kept
  · rename_i r sends
    split_ifs
    · exact cutReply_kept r s
    · exact resends_kept sends id

theorem powerOnReset_kept (s : State) : LinkKept s (powerOnReset s) := by
  refine ⟨⟨rfl, rfl, rfl⟩, fun _ => ?_⟩
  obtain ⟨slots, bodies, receiver, gap, inBreak, sinceReset, oneAtATime, abandoned, -⟩ := linkSafe_reset
  exact ⟨slots, bodies, receiver, gap, inBreak, sinceReset, oneAtATime, abandoned, nofun⟩

end Sys2Proof.Machine
end

section
/-! PROOFS. How long replies are: each body fits the envelope (R157). -/

namespace Sys2Proof.Machine

/-! ## The length of what replies carry -/

theorem flatMap_length_le {α β : Type} {f : α → List β} {n : Nat} (each : ∀ x, (f x).length ≤ n) (l : List α) :
    (l.flatMap f).length ≤ l.length * n := by
  simpa [List.length_flatMap] using List.sum_le_card_nsmul (l.map fun x => (f x).length) n (by simp [each])

theorem wordBytes_length (ws : List Word16) : (wordBytes ws).length ≤ ws.length * 2 :=
  flatMap_length_le (fun _ => by rw [bytesLE_length]) ws

theorem readFrom_length {α : Type} {n : Nat} (t : Vector α n) (start count : Nat) :
    (readFrom t start count).length ≤ count := List.length_take_le _ _

theorem entryBytes_length (e : Entry) : e.bytes.length = 9 := by simp [Entry.bytes, bytesLE_length]

theorem profileBytes_length (p : Profile) : p.bytes.length = 16 := by simp [Profile.bytes, bytesLE_length]

theorem stagedBytes_length (staged : Option Profile) : (stagedBytes staged).length ≤ 17 := by
  cases staged <;> simp [stagedBytes, profileBytes_length]

theorem recordBytes_length (pg : Page) : pg.recordBytes.length = 8 := by simp [Page.recordBytes, bytesLE_length]

theorem checkConfigBytes_length (c : CheckConfig) : c.bytes.length = 8 := by simp [CheckConfig.bytes, bytesLE_length]

/-- A record takes at most the twelve bytes of a sample record with all its parts (R181, R182). -/
theorem record_length_le (r : Record) : r.bytes.length ≤ 12 := by
  cases r with
  | sample r => rw [sampleRecord_length]; split_ifs <;> omega
  | marker m => rw [passMarker_bytes]; simp [bytesLE_length]

theorem delivered_length (lossMark : Bool) (records : List Record) :
    (delivered lossMark records).length = records.length := by
  cases records <;> rfl

theorem drainBody_length {n : Nat} (few : n ≤ 16) (s : State) : (drainBody n s).length ≤ 240 := by
  have records := flatMap_length_le record_length_le (delivered s.rq.lossMark (s.rq.records.take n))
  have taken : (s.rq.records.take n).length ≤ n := List.length_take_le _ _
  rw [delivered_length] at records
  simp only [drainBody, List.length_append, List.length_singleton, bytesLE_length]
  omega

theorem sampleBody_length (s : State) (f : SampleFields) (raw : Nat) (ovr : Bool) (din : Byte) :
    (sampleBody s f raw ovr din).length = 6 := by
  simp [sampleBody, bytesLE_length]

/-! ## Owners that end in a reply -/

/-- What an owner of a request does ends in a reply within the envelope, on a state whose port stands. -/
def RepliesWithin (owner : State → State) : Prop :=
  ∀ s, ∃ u r, SameLink s u ∧ r.body.length ≤ 240 ∧ owner s = putReply r u

section Replies

variable {s u : State} (kind tag : Byte)

theorem ack_replies {body : List Byte} (same : SameLink s u) (fits : body.length ≤ 240) :
    ∃ v r, SameLink s v ∧ r.body.length ≤ 240 ∧ ack kind tag body u = putReply r v :=
  ⟨u, _, same, fits, rfl⟩

theorem refuse_replies (reason : Reason) :
    ∃ v r, SameLink s v ∧ r.body.length ≤ 240 ∧ refuse kind tag reason s = putReply r v :=
  ⟨s, _, .refl s, Nat.le_of_ble_eq_true rfl, rfl⟩

end Replies

theorem RepliesWithin.kept {owner : State → State} (replies : RepliesWithin owner) {s : State}
    (free : s.lp.service = .idle) : LinkKept s (owner s) := by
  obtain ⟨u, r, same, fits, answers⟩ := replies s
  rw [answers]
  exact same.kept.trans (putReply_kept (same.service.trans free) fits)

theorem refuse_repliesWithin (kind tag : Byte) (reason : Reason) : RepliesWithin (refuse kind tag reason) :=
  fun _ => refuse_replies kind tag reason

/-- A reply formed from the state alone. -/
theorem ack_repliesWithin (kind tag : Byte) {body : State → List Byte} (fits : ∀ s, (body s).length ≤ 240) :
    RepliesWithin fun s => ack kind tag (body s) s :=
  fun s => ack_replies kind tag (.refl s) (fits s)

section Owners

variable (tag : Byte) (body : List Byte)

theorem identify_repliesWithin : RepliesWithin (ack kindIdentify tag identifyBody) :=
  ack_repliesWithin _ _ fun _ => Nat.le_of_ble_eq_true rfl

theorem status_repliesWithin : RepliesWithin fun s => ack kindStatus tag (statusBody s) s :=
  ack_repliesWithin _ _ fun _ => Nat.le_of_ble_eq_true rfl

theorem reset_repliesWithin : RepliesWithin (ack kindReset tag []) := ack_repliesWithin _ _ fun _ => Nat.zero_le _

theorem attentionSetRequest_repliesWithin : RepliesWithin (attentionSetRequest tag body) := by
  intro s
  unfold attentionSetRequest
  split
  · split_ifs
    · exact refuse_replies _ _ _
    · exact ack_replies _ _ (by constructor <;> simp) (by simp)
  · exact refuse_replies _ _ _

theorem programLoadRequest_repliesWithin : RepliesWithin (programLoadRequest tag body) := by
  intro s
  unfold programLoadRequest
  repeat' split
  any_goals exact refuse_replies _ _ _
  exact ack_replies _ _ (by constructor <;> simp [loadProgram]) (by simp)

theorem programTrimRequest_repliesWithin : RepliesWithin (programTrimRequest tag body) := by
  intro s
  unfold programTrimRequest
  repeat' split
  any_goals exact refuse_replies _ _ _
  exact ack_replies _ _ (by constructor <;> simp) (by simp)

/-- At most eight entries of nine bytes (R14). -/
theorem programReadRequest_repliesWithin : RepliesWithin (programReadRequest tag body) := by
  intro s
  unfold programReadRequest
  split
  · rename_i start count
    split_ifs with bad
    iterate 2 exact refuse_replies _ _ _
    refine ack_replies _ _ (.refl s) ?_
    have entries := readFrom_length s.ps.slots start.toNat count.toNat
    have bytes := flatMap_length_le (fun e => (entryBytes_length e).le) (readFrom s.ps.slots start.toNat count.toNat)
    simp only [List.length_append, List.length_cons, List.length_nil]
    omega
  · exact refuse_replies _ _ _

theorem triggerSetRequest_repliesWithin : RepliesWithin (triggerSetRequest tag body) := by
  intro s
  unfold triggerSetRequest
  repeat' split
  any_goals exact refuse_replies _ _ _
  exact ack_replies _ _ (by constructor <;> simp) (by simp)

theorem outputSetRequest_repliesWithin : RepliesWithin (outputSetRequest tag body) := by
  intro s
  unfold outputSetRequest
  repeat' split
  any_goals exact refuse_replies _ _ _
  all_goals exact ack_replies _ _ (by constructor <;> simp) (by simp)

theorem setProfile_sameLink (i : Fin 16) (p : Profile) (s : State) : SameLink s (setProfile i p s) := by
  unfold setProfile
  split_ifs <;> constructor <;> simp

theorem profileSetRequest_repliesWithin : RepliesWithin (profileSetRequest tag body) := by
  intro s
  unfold profileSetRequest
  repeat' split
  any_goals exact refuse_replies _ _ _
  exact ack_replies _ _ (setProfile_sameLink _ _ s) (by simp)

theorem profileReadRequest_repliesWithin : RepliesWithin (profileReadRequest tag body) := by
  intro s
  unfold profileReadRequest
  repeat' split
  any_goals exact refuse_replies _ _ _
  rename_i i _
  have staged := stagedBytes_length (s.fm.staged.get i)
  refine ack_replies _ _ (.refl s) ?_
  simp only [List.length_append, List.length_singleton, profileBytes_length]
  omega

/-- The ACK carries the sixteen words of the table (R85). -/
theorem substituteSetRequest_repliesWithin : RepliesWithin (substituteSetRequest tag body) := by
  intro s
  unfold substituteSetRequest
  repeat' split
  any_goals exact refuse_replies _ _ _
  refine ack_replies _ _ (by constructor <;> simp) ((wordBytes_length _).trans ?_)
  simp

theorem mapLoadRequest_repliesWithin : RepliesWithin (mapLoadRequest tag body) := by
  intro s
  unfold mapLoadRequest
  repeat' split
  any_goals exact refuse_replies _ _ _
  exact ack_replies _ _ (by constructor <;> simp [putPage]) (by simp)

theorem mapSwapRequest_repliesWithin : RepliesWithin (mapSwapRequest tag body) := by
  intro s
  unfold mapSwapRequest
  dsimp only
  repeat' split
  any_goals exact refuse_replies _ _ _
  exact ack_replies _ _ (by constructor <;> simp [putPage]) (by simp)

/-- At most 64 words beside the page's record (R122). -/
theorem mapReadRequest_repliesWithin : RepliesWithin (mapReadRequest tag body) := by
  intro s
  unfold mapReadRequest
  split
  · rename_i page half start count
    split
    · rename_i i h _ _
      split_ifs with bad
      iterate 2 exact refuse_replies _ _ _
      refine ack_replies _ _ (.refl s) ?_
      have words := readFrom_length ((s.tm.pages.get i).entries h) start.toNat count.toNat
      have bytes := wordBytes_length (readFrom ((s.tm.pages.get i).entries h) start.toNat count.toNat)
      simp only [List.length_append, List.length_cons, List.length_nil, recordBytes_length]
      omega
    · exact refuse_replies _ _ _
  · exact refuse_replies _ _ _

theorem checkSetRequest_repliesWithin : RepliesWithin (checkSetRequest tag body) := by
  intro s
  unfold checkSetRequest setCheck
  repeat' split
  any_goals exact refuse_replies _ _ _
  all_goals exact ack_replies _ _ (by constructor <;> simp) (by simp [checkConfigBytes_length])

/-! ## The requests that act on a run, and CLEAR -/

theorem armRun_sameLink (f : ArmFields) (s : State) : SameLink s (armRun f s) := by
  have prepared : SameLink s (s.armedBy f) := by constructor <;> simp [State.armedBy]
  cases start : f.ctx.start with
  | now => rw [armRun_now start]; exact prepared.trans (by constructor <;> simp)
  | level => rw [armRun_level start]; exact prepared.trans (by constructor <;> simp [startMonitor])
  | line => rw [armRun_waits (.inl start)]; exact prepared
  | pattern => rw [armRun_waits (.inr start)]; exact prepared

theorem armRequest_repliesWithin : RepliesWithin (armRequest tag body) := by
  intro s
  unfold armRequest
  split_ifs
  iterate 2 exact refuse_replies _ _ _
  split
  · exact refuse_replies _ _ _
  · exact ack_replies _ _ (armRun_sameLink _ s) (by simp)

theorem stopRun_sameLink (s : State) : SameLink s (stopRun s) := by
  obtain ⟨-, same⟩ | ⟨-, ends⟩ | ⟨-, -, stops⟩ := stopRun_cases s
  · rw [same]; exact .refl s
  · rw [ends]; constructor <;> simp
  · rw [stops]; constructor <;> simp

theorem stopRequest_repliesWithin : RepliesWithin (stopRequest tag) :=
  fun s => ack_replies _ _ (stopRun_sameLink s) (by simp)

theorem resumeRequest_repliesWithin : RepliesWithin (resumeRequest tag) := by
  intro s
  unfold resumeRequest
  split_ifs
  iterate 2 exact refuse_replies _ _ _
  exact ack_replies _ _ (by constructor <;> simp) (by simp)

/-- At most sixteen records leave with a DRAIN (R150). -/
theorem drainRequest_repliesWithin : RepliesWithin (drainRequest tag body) := by
  intro s
  unfold drainRequest
  split
  · split_ifs with bad
    · exact refuse_replies _ _ _
    · exact ack_replies _ _ (by constructor <;> simp [removeRecords]) (drainBody_length (by omega) s)
  · exact refuse_replies _ _ _

theorem clearActions_sameLink (actions : Byte) (s : State) : SameLink s (clearActions actions s) := by
  have taken {action : State → State} (keeps : ∀ u, SameLink u (action u)) {named : Bool} {u : State}
      (same : SameLink s u) : SameLink s (actIf named action u) := actIf_of same (same.trans (keeps u))
  have empties (u : State) : SameLink u (emptyQueueAction u) := by constructor <;> simp
  have erasesProgram (u : State) : SameLink u (eraseProgramAction u) := by constructor <;> simp
  have erasesMaps (u : State) : SameLink u (eraseMapsAction u) := by constructor <;> simp
  have rests (u : State) : SameLink u (restOutputsAction u) := by constructor <;> simp
  exact taken rests (taken erasesMaps (taken erasesProgram (taken empties (.refl s))))

theorem clearOwner_repliesWithin (mask : BitVec 16) (actions : Byte) :
    RepliesWithin (clearOwner tag mask actions) := by
  intro s
  obtain bad | busy | ⟨-, cleared⟩ := clearOwner_cases tag mask actions s
  · rw [bad]; exact refuse_replies _ _ _
  · rw [busy]; exact refuse_replies _ _ _
  · rw [cleared]
    have flagged : SameLink s (clearFlags (mask.setWidth 14) s) := by constructor <;> simp
    refine ack_replies _ _ (flagged.trans (clearActions_sameLink actions _)) ?_
    rw [State.flagBytes, bytesLE_length]
    decide

theorem clearRequest_repliesWithin : RepliesWithin (clearRequest tag body) := by
  intro s
  unfold clearRequest
  split
  · exact clearOwner_repliesWithin tag _ _ s
  · exact refuse_replies _ _ _

/-! ## The requests that take time (R74, R112) -/

variable {s : State} (free : s.lp.service = .idle) (empty : s.lp.reply = none)

include free empty

theorem beginsService_kept (service : Service) : LinkKept s { s with lp.service := service } :=
  ⟨⟨rfl, rfl, rfl⟩, fun safe => safe.beginsService service free empty⟩

theorem sampleRequest_kept : LinkKept s (sampleRequest tag body s) := by
  have refused (reason : Reason) := (refuse_repliesWithin kindSample tag reason).kept free
  unfold sampleRequest
  split_ifs
  · exact refused _
  · split
    · exact refused _
    · exact beginsService_kept free empty _

theorem mapCommitRequest_kept : LinkKept s (mapCommitRequest tag body s) := by
  have refused (reason : Reason) := (refuse_repliesWithin kindMapCommit tag reason).kept free
  have begins (i : Fin 16) (expected : BitVec 32) : LinkKept s (beginCheck tag i expected s) :=
    (beginsService_kept free empty (.commit tag expected)).trans
      (SameLink.kept (by constructor <;> simp [beginCheck]))
  unfold mapCommitRequest
  repeat' split
  any_goals exact refused _
  exact begins _ _

end Owners

/-- A request command keeps the port where its owner does at a free port (R163). -/
theorem serve_kept {kind tag : Byte} {body : List Byte} {lengthOk : Bool} {owner : State → State} (s : State)
    (owned : ∀ t, t.lp.service = .idle → t.lp.reply = none → LinkKept t (owner t)) :
    LinkKept s (serve kind tag body lengthOk owner s) := by
  refine serve_keeps (P := LinkKept s) (.refl s) (fun arrives => ?_) fun t rest here ready => ?_
  · have fits : body.length ≤ 240 := by
      simp only [State.canArrive, Bool.and_eq_true, decide_eq_true_eq] at arrives
      exact arrives.2
    exact (judgeGap_kept s).trans ⟨by simp, fun safe => joinBuffer_linkSafe safe fits⟩
  · obtain ⟨free, empty, -⟩ := ready
    have taken : LinkKept t (takeRequest t) := ⟨by simp, fun safe => { safe with
      slots := (List.tail_sublist _).length_le.trans safe.slots
      bodies := fun f waits => safe.bodies f (List.mem_of_mem_tail waits) }⟩
    refine here.trans (taken.trans ?_)
    unfold beginService
    split_ifs
    · exact owned _ free empty
    · exact (refuse_repliesWithin kind tag .badLength).kept free

end Sys2Proof.Machine
end

section
/-! PROOFS. Every command answers a next state with the outside kept, and every step keeps the port safe (O3, O53). -/

namespace Sys2Proof.Machine

/-! ## The events of a run, of the Converter and of a map check -/

theorem expireSettle_sameLink (s : State) : SameLink s (expireSettle s) := by
  unfold expireSettle
  dsimp only
  cases s.entry.source <;> constructor <;> simp [holdReading]

theorem expireStepTimer_sameLink (s : State) : SameLink s (expireStepTimer s) := by
  unfold expireStepTimer
  split_ifs <;> constructor <;> simp

theorem expirePacer_sameLink (s : State) : SameLink s (expirePacer s) := by
  unfold expirePacer
  dsimp only
  split <;> constructor <;> simp [missTick]

theorem completeStep_sameLink (raw : Nat) (ovr : Bool) (s : State) : SameLink s (completeStep raw ovr s) := by
  unfold completeStep updateZone
  dsimp only
  split_ifs <;> constructor <;> simp

theorem completeMonitor_sameLink (raw : Nat) (s : State) : SameLink s (completeMonitor raw s) := by
  unfold completeMonitor
  dsimp only
  split_ifs <;> constructor <;> simp

/-- A SAMPLE's completion forms its reply, six bytes long (TABLE 10.7). -/
theorem completeSample_kept (raw : Nat) (ovr : Bool) (s : State) : LinkKept s (completeSample raw ovr s) := by
  unfold completeSample
  split
  · refine finishService_kept _ s ?_
    rw [sampleBody_length]
    decide
  · exact .refl s

theorem endConversion_kept (c : Claim) (s : State) : LinkKept s (endConversion c s) := by
  have idle : LinkKept s { s with cv.claim := none } := SameLink.kept (by constructor <;> simp)
  unfold endConversion completeClaim
  dsimp only
  split_ifs
  · exact SameLink.kept (by constructor <;> simp)
  · split
    · exact idle.trans (completeStep_sameLink _ _ _).kept
    · exact idle.trans (completeMonitor_sameLink _ _).kept
    · exact idle.trans (completeSample_kept _ _ _)

theorem completeCheck_kept (i : Fin 16) (h : Half) (tag : Byte) (expected : BitVec 32) (s : State) :
    LinkKept s (completeCheck i h tag expected s) := by
  unfold completeCheck
  dsimp only
  refine LinkKept.trans (t := raise .mapCheck _) (SameLink.kept ?_) (finishService_kept _ _ ?_)
  · constructor <;> simp [putPage]
  · simp [bytesLE_length]

/-- A SAMPLE's settle ends, its service going on with its conversions (R75). -/
theorem sampleSettled_kept {s : State} {tag : Byte} {f : SampleFields} {left : Nat}
    (settled : s.lp.service = .sampleSettling tag f left) :
    LinkKept s { claimConverter .sample f.channel f.range f.averaging s with
      lp.service := .sampleConverting tag f s.pins.din } :=
  ⟨⟨rfl, rfl, rfl⟩, fun safe => { safe with
    oneAtATime := fun _ => safe.oneAtATime (by simp [settled])
    abandoned := fun _ => nofun }⟩

/-! ## Every command -/

/-- The command answers a next state with the outside and a safe port kept. -/
def AnswersKept (c : Instr) (s : State) : Prop := ∃ t, exec c s = .next t ∧ LinkKept s t

namespace AnswersKept

variable {c : Instr} {s t : State}

/-- An event that acts where it is due and else changes nothing (log 1). -/
theorem of_due {due : Prop} {_ : Decidable due} (meaning : exec c s = .next (if due then t else s))
    (acts : due → LinkKept s t) : AnswersKept c s := by
  refine ⟨_, meaning, ?_⟩
  split_ifs with h
  · exact acts h
  · exact .refl s

variable {kind tag : Byte} {body : List Byte} {lengthOk : Bool} {owner : State → State}

theorem of_serve (meaning : exec c s = .next (serve kind tag body lengthOk owner s))
    (owned : ∀ t, t.lp.service = .idle → t.lp.reply = none → LinkKept t (owner t)) : AnswersKept c s :=
  ⟨_, meaning, serve_kept s owned⟩

theorem of_replies (meaning : exec c s = .next (serve kind tag body lengthOk owner s))
    (replies : RepliesWithin owner) : AnswersKept c s :=
  of_serve meaning fun _ free _ => replies.kept free

end AnswersKept

section Events

variable (s : State)

theorem unknownKind_answersKept (kind tag : Byte) (body : List Byte) : AnswersKept (.unknownKind kind tag body) s := by
  refine ⟨_, rfl, ?_⟩
  split_ifs
  · exact .refl s
  · exact serve_kept s fun _ free _ => (refuse_repliesWithin kind tag .unknownKind).kept free

theorem frameComplete_answersKept (chk : Byte) : AnswersKept (.frameComplete chk) s := by
  refine ⟨_, rfl, ?_⟩
  split
  · exact receiveByte_kept chk s
  · exact .refl s

/-- With LRX low the wait for its rise begins, outside a break (R160, R167). -/
theorem framingError_answersKept : AnswersKept .framingError s := by
  refine ⟨_, rfl, ?_⟩
  split_ifs with listens
  · exact framingError_kept s
  · have quiet : s.lp.inBreak = false := by
      simp only [State.listening, Bool.and_eq_true, Bool.not_eq_true'] at listens
      exact listens.1
    exact ⟨⟨rfl, rfl, rfl⟩, fun safe => { safe with inBreak := fun breaks => by cases quiet.symm.trans breaks }⟩
  · exact .refl s

theorem breakEnd_answersKept : AnswersKept .breakEnd s :=
  .of_due rfl fun _ => ⟨⟨rfl, rfl, rfl⟩, fun safe => { discardPartial_linkSafe safe with inBreak := nofun }⟩

/-- A byte sent leaves no more of its clock than was over (R166). -/
theorem replyByteSent_answersKept : AnswersKept .replyByteSent s := by
  refine ⟨_, rfl, ?_⟩
  split
  · rename_i r sends
    split_ifs with more cut high
    · exact cutReply_kept r s
    · exact resends_kept sends fun ⟨_, fits, clock⟩ => ⟨more.2, fits, (Nat.sub_le _ _).trans_lt clock⟩
    · exact resends_kept sends fun ⟨_, fits, clock⟩ => ⟨more.2, fits, (Nat.zero_le _).trans_lt clock⟩
    · exact .refl s
  · exact .refl s

theorem replySent_answersKept : AnswersKept .replySent s := by
  refine ⟨_, rfl, ?_⟩
  split
  · rename_i r _
    split_ifs
    · exact cutReply_kept r s
    · exact endReply_kept r s
    · exact .refl s
  · exact .refl s

theorem holdnRelease_answersKept : AnswersKept .holdnRelease s := by
  refine ⟨_, rfl, ?_⟩
  split
  · rename_i r sends
    split_ifs
    · exact resends_kept sends fun ⟨sent, fits, clock⟩ => ⟨sent, fits, (Nat.zero_le _).trans_lt clock⟩
    · exact .refl s
  · exact .refl s

theorem conversionEnd_answersKept : AnswersKept .conversionEnd s := by
  refine ⟨_, rfl, ?_⟩
  split
  · split_ifs
    · exact endConversion_kept _ s
    · exact .refl s
  · exact .refl s

theorem sampleSettleExpiry_answersKept : AnswersKept .sampleSettleExpiry s := by
  refine ⟨_, rfl, ?_⟩
  split
  · rename_i settled
    exact sampleSettled_kept settled
  · exact .refl s

theorem unitBAbsorb_answersKept : AnswersKept .unitBAbsorb s := by
  refine ⟨_, rfl, ?_⟩
  split
  · split_ifs
    · exact SameLink.kept (by constructor <;> simp [absorbEntry])
    · exact .refl s
  · exact .refl s

theorem mapCommitCompletion_answersKept : AnswersKept .mapCommitCompletion s := by
  refine ⟨_, rfl, ?_⟩
  split
  · split_ifs
    · exact completeCheck_kept _ _ _ _ s
    · exact .refl s
  · exact .refl s

/-- Every command: the requests by their owners, the events by what they do where due. -/
theorem exec_answersKept (c : Instr) : AnswersKept c s := by
  cases c with
  | identify tag body => exact .of_replies rfl (identify_repliesWithin tag)
  | status tag body => exact .of_replies rfl (status_repliesWithin tag)
  | clear tag body => exact .of_replies rfl (clearRequest_repliesWithin tag body)
  | emptyQueue tag mask => exact .of_replies rfl (clearOwner_repliesWithin tag mask _)
  | eraseProgram tag mask => exact .of_replies rfl (clearOwner_repliesWithin tag mask _)
  | eraseMaps tag mask => exact .of_replies rfl (clearOwner_repliesWithin tag mask _)
  | restOutputs tag mask => exact .of_replies rfl (clearOwner_repliesWithin tag mask _)
  | attentionSet tag body => exact .of_replies rfl (attentionSetRequest_repliesWithin tag body)
  | reset tag body => exact .of_replies rfl (reset_repliesWithin tag)
  | programLoad tag body => exact .of_replies rfl (programLoadRequest_repliesWithin tag body)
  | programTrim tag body => exact .of_replies rfl (programTrimRequest_repliesWithin tag body)
  | programRead tag body => exact .of_replies rfl (programReadRequest_repliesWithin tag body)
  | triggerSet tag body => exact .of_replies rfl (triggerSetRequest_repliesWithin tag body)
  | outputSet tag body => exact .of_replies rfl (outputSetRequest_repliesWithin tag body)
  | arm tag body => exact .of_replies rfl (armRequest_repliesWithin tag body)
  | stop tag body => exact .of_replies rfl (stopRequest_repliesWithin tag)
  | resume tag body => exact .of_replies rfl (resumeRequest_repliesWithin tag)
  | sample tag body => exact .of_serve rfl fun _ free empty => sampleRequest_kept tag body free empty
  | profileSet tag body => exact .of_replies rfl (profileSetRequest_repliesWithin tag body)
  | profileRead tag body => exact .of_replies rfl (profileReadRequest_repliesWithin tag body)
  | substituteSet tag body => exact .of_replies rfl (substituteSetRequest_repliesWithin tag body)
  | mapLoad tag body => exact .of_replies rfl (mapLoadRequest_repliesWithin tag body)
  | mapCommit tag body => exact .of_serve rfl fun _ free empty => mapCommitRequest_kept tag body free empty
  | mapSwap tag body => exact .of_replies rfl (mapSwapRequest_repliesWithin tag body)
  | mapRead tag body => exact .of_replies rfl (mapReadRequest_repliesWithin tag body)
  | checkSet tag body => exact .of_replies rfl (checkSetRequest_repliesWithin tag body)
  | drain tag body => exact .of_replies rfl (drainRequest_repliesWithin tag body)
  | unknownKind kind tag body => exact unknownKind_answersKept s kind tag body
  | frameComplete chk => exact frameComplete_answersKept s chk
  | lenError len => exact .of_due rfl fun _ => receiveByte_kept len s
  | gapTimeout => exact ⟨_, rfl, judgeGap_kept s⟩
  | framingError => exact framingError_answersKept s
  | linkBreak => exact .of_due rfl fun _ => (breakPort_kept s).trans (breakReply_kept _)
  | breakEnd => exact breakEnd_answersKept s
  | replySent => exact replySent_answersKept s
  | holdnRelease => exact holdnRelease_answersKept s
  | powerOnReset => exact ⟨_, rfl, powerOnReset_kept s⟩
  | settleExpiry => exact .of_due rfl fun _ => (expireSettle_sameLink s).kept
  | stepTimerExpiry => exact .of_due rfl fun _ => (expireStepTimer_sameLink s).kept
  | pacerExpiry => exact .of_due rfl fun _ => (expirePacer_sameLink s).kept
  | conversionEnd => exact conversionEnd_answersKept s
  | monitorIntervalExpiry => exact .of_due rfl fun _ => SameLink.kept (by constructor <;> simp)
  | sampleSettleExpiry => exact sampleSettleExpiry_answersKept s
  | unitBAbsorb => exact unitBAbsorb_answersKept s
  | mapCommitCompletion => exact mapCommitCompletion_answersKept s
  | trigEdge => exact .of_due rfl fun _ => SameLink.kept (by constructor <;> simp)
  | patternEvent => exact .of_due rfl fun _ => SameLink.kept (by constructor <;> simp)
  | byteReceived byte => exact ⟨_, rfl, receiveByte_kept byte s⟩
  | replyByteSent => exact replyByteSent_answersKept s
  | comparatorSample => exact .of_due rfl fun _ => SameLink.kept (by constructor <;> simp)
  | lineWatcherSample => exact .of_due rfl fun _ => SameLink.kept (by constructor <;> simp)

end Events

/-! ## A microsecond (R159, R165, R183) -/

/-- Where no byte has gone out in full the byte going out has had less than its ten bit times (R165). -/
theorem clock_lt_of_no_byteEnd {s : State} {r : Transmission} (sends : s.lp.reply = some r)
    (started : r.waiting = false) (within : r.sent < r.reply.size) (more : s.byteEnd false = false)
    (last : s.byteEnd true = false) : r.clock < 10000000 := by
  by_contra ended
  simp only [State.byteEnd, sends, started, Bool.not_false, Bool.true_and, Bool.and_eq_false_iff, Bool.false_eq_true,
    if_false, if_true, decide_eq_false_iff_not] at more last
  have whole : Config.byteTime ≤ r.clock := Nat.not_lt.mp ended
  have notMore := more.resolve_left (not_not.mpr whole)
  have notLast := last.resolve_left (not_not.mpr whole)
  omega

/-- A gap not above 5000 microseconds is at most 5001 after one more (R159). -/
theorem gapTick_le {lrx : Bool} {gap : Option Nat} (short : ∀ n, gap = some n → n ≤ 5000) (n : Nat)
    (ticked : gapTick lrx gap = some n) : n ≤ 5001 := by
  cases gap with
  | none => cases ticked
  | some m =>
    have := short m rfl
    simp only [gapTick] at ticked
    split_ifs at ticked
    cases ticked
    omega

/-- A microsecond passes only where no gap is too long and no byte of the reply has gone out (log 4). -/
theorem advance_linkSafe {s : State} (safe : LinkSafe s) (gapShort : s.gapExceeded = false)
    (more : s.byteEnd false = false) (last : s.byteEnd true = false) : LinkSafe (advance s) := by
  have busy : s.lp.service.tick ≠ .idle ↔ s.lp.service ≠ .idle := by cases s.lp.service <;> simp [Service.tick]
  have short (n : Nat) (timed : s.lp.gap = some n) : n ≤ 5000 := by
    simp only [State.gapExceeded, timed, decide_eq_false_iff_not, Nat.not_lt] at gapShort
    exact gapShort
  exact { safe with
    gap := ⟨fun hunts => by
      change gapTick _ s.lp.gap = none
      rw [safe.gap.1 hunts]
      rfl, fun n => gapTick_le short n⟩
    sinceReset := Nat.min_le_right _ _
    oneAtATime := fun serves => by
      change s.lp.reply.map _ = none
      rw [safe.oneAtATime (busy.mp serves)]
      rfl
    abandoned := fun marked => busy.mpr (safe.abandoned marked)
    reply := fun t sends => by
      obtain ⟨r, before, rfl⟩ := Option.map_eq_some_iff.mp sends
      obtain ⟨sent, fits, clock⟩ := safe.reply r before
      rw [Transmission.tick_eq]
      split_ifs with waits
      · exact ⟨sent, fits, clock⟩
      · have short := clock_lt_of_no_byteEnd before (by simpa using waits) sent more last
        exact ⟨sent, fits, Nat.add_lt_add_right short _⟩ }

theorem LinkSafe.of_lp {s t : State} (safe : LinkSafe s) (lp : t.lp = s.lp) : LinkSafe t := by
  obtain ⟨slots, bodies, receiver, gap, inBreak, sinceReset, oneAtATime, abandoned, reply⟩ := safe
  constructor <;> simpa only [lp]

theorem arrive_lp (s : State) : (arrive s).lp = s.lp := by
  unfold arrive
  split <;> rfl

theorem tick_linkSafe {s : State} (safe : LinkSafe s) (quiet : s.due = none) : LinkSafe (tick s) := by
  obtain ⟨noneDue, -⟩ := due_none quiet
  have gapShort : s.gapExceeded = false := noneDue (s.gapExceeded, .gapTimeout) (by simp [State.events])
  have more : s.byteEnd false = false := noneDue (s.byteEnd false, .replyByteSent) (by simp [State.events])
  have last : s.byteEnd true = false := noneDue (s.byteEnd true, .replySent) (by simp [State.events])
  have lp := arrive_lp s
  unfold tick
  dsimp only
  split_ifs
  · refine (advance_linkSafe (safe.of_lp lp) ?_ ?_ ?_).of_lp rfl
    · rwa [State.gapExceeded, lp]
    · rwa [State.byteEnd, lp]
    · rwa [State.byteEnd, lp]
  · exact ((powerOnReset_kept (arrive s)).safe (safe.of_lp lp)).of_lp rfl

/-! ## Every step -/

/-- All that a step can do: a command, or a microsecond where nothing is due (log 4). -/
theorem step_cases {s t : State} (steps : step s = .next t) :
    (∃ c rest, exec c { s with pending := rest } = .next t) ∨ (s.due = none ∧ t = tick s) := by
  unfold step at steps
  split at steps
  · rename_i c rest _
    exact .inl ⟨c, rest, steps⟩
  · unfold idle at steps
    split at steps
    · rename_i c _
      exact .inl ⟨c, s.pending, steps⟩
    · rename_i quiet
      cases steps
      exact .inr ⟨quiet, rfl⟩

/-- Settles O53: every command keeps the port safe (`exec_answersKept`), and so does a microsecond where nothing is
due. -/
theorem stepKeepsLinkSafe : Obligations.StepKeepsLinkSafe := by
  unfold Obligations.StepKeepsLinkSafe
  intro s t safe steps
  obtain ⟨c, rest, answers⟩ | ⟨quiet, rfl⟩ := step_cases steps
  · obtain ⟨u, next, kept⟩ := exec_answersKept { s with pending := rest } c
    cases next.symm.trans answers
    exact kept.safe (safe.of_lp rfl)
  · exact tick_linkSafe safe quiet

/-- Settles O3: no command and no microsecond stops the part, and a command keeps the outside. -/
theorem everyStepAnswersNext : Obligations.EveryStepAnswersNext := by
  unfold Obligations.EveryStepAnswersNext
  refine ⟨fun c s => ?_, fun s => ?_⟩
  · obtain ⟨t, next, kept⟩ := exec_answersKept s c
    exact ⟨t, next, kept.outside⟩
  · have answers (c : Instr) (u : State) : ∃ t, exec c u = .next t :=
      (exec_answersKept u c).imp fun _ => And.left
    unfold step
    split
    · exact answers _ _
    · unfold idle
      split
      · exact answers _ _
      · exact ⟨_, rfl⟩

end Sys2Proof.Machine
end

section
/-! PROOFS. The requests the Link Port serves itself, and how a request command arrives (O6, O7, O8, O10, O12). -/

namespace Sys2Proof.Machine

/-! ## IDENTIFY and STATUS (R171, R172) -/

/-- Settles O6: the ACK of IDENTIFY at once, its nine bytes as they are laid out. -/
theorem identifyReply : Obligations.IdentifyReply := by
  unfold Obligations.IdentifyReply
  intro s tag rest ready
  have meaning : exec (.identify tag []) s = .next (ack kindIdentify tag identifyBody (s.awaiting rest)) :=
    owner_serves ready rfl rfl
  rw [meaning, ack_answered]
  rfl

/-- Settles O7: the ACK of STATUS at once, its values those of the state without the frame. -/
theorem statusReply : Obligations.StatusReply := by
  unfold Obligations.StatusReply
  intro s tag rest ready
  have meaning : exec (.status tag []) s =
      .next (ack kindStatus tag (statusBody (s.awaiting rest)) (s.awaiting rest)) :=
    owner_serves (owner := fun t => ack kindStatus tag (statusBody t) t) ready rfl rfl
  rw [meaning, ack_answered]
  rfl

/-! ## ATTENTION SET and ATTN (R170, R174, R179) -/

section AttentionSet

variable (tag : Byte) {b0 b1 : Byte} (s : State)

theorem attentionSetRequest_badField (reserved : 16384 ≤ num16 b0 b1) :
    attentionSetRequest tag [b0, b1] s = refuse kindAttentionSet tag .badField s := if_pos reserved

theorem attentionSetRequest_sets (good : num16 b0 b1 < 16384) :
    attentionSetRequest tag [b0, b1] s =
      ack kindAttentionSet tag [b0, b1] { s with lp.mask := BitVec.ofNat 14 (num16 b0 b1) } :=
  if_neg (Nat.not_le.mpr good)

end AttentionSet

/-- Every bit of the flag word is a flag's (TABLE 10.11). -/
theorem Flag.exists_position {i : Nat} (inside : i < 14) : ∃ f : Flag, f.position = i := by
  have all : ∀ i : Fin 14, ∃ f ∈ [Flag.powerOn, .triggered, .passEnd, .runEnd, .paused, .halted, .queueLevel,
      .queueLoss, .limit, .tickMissed, .pattern, .mapCheck, .linkError, .linkBreak], f.position = i.val := by decide
  obtain ⟨f, -, position⟩ := all ⟨i, inside⟩
  exact ⟨f, position⟩

/-- ATTN is asserted just where some flag is set and enabled (R170). -/
theorem attn_iff (s : State) : attn s = true ↔ ∃ f : Flag, s.flag f = true ∧ s.lp.mask.getLsbD f.position = true := by
  have common (f : Flag) :
      (s.lp.flags &&& s.lp.mask).getLsbD f.position = (s.flag f && s.lp.mask.getLsbD f.position) := by
    rw [BitVec.getLsbD_and]; rfl
  simp only [attn, bne_iff_ne, ne_eq]
  constructor
  · intro asserted
    by_contra nobody
    refine asserted (BitVec.eq_of_getLsbD_eq fun i inside => ?_)
    obtain ⟨f, rfl⟩ := Flag.exists_position inside
    have unmet : (s.flag f && s.lp.mask.getLsbD f.position) = false := by
      rw [Bool.eq_false_iff, ne_eq, Bool.and_eq_true]
      exact fun both => nobody ⟨f, both⟩
    simp [common, unmet]
  · rintro ⟨f, set, enabled⟩ zero
    have bit := common f
    rw [zero, set, enabled] at bit
    simp at bit

/-- Settles O10: ATTENTION SET by its two outcomes, and ATTN by the flags. -/
theorem attentionSetReplacesMask : Obligations.AttentionSetReplacesMask := by
  unfold Obligations.AttentionSetReplacesMask
  refine ⟨fun s tag b0 b1 rest ready => ?_, attn_iff⟩
  have meaning : exec (.attentionSet tag [b0, b1]) s = .next (attentionSetRequest tag [b0, b1] (s.awaiting rest)) :=
    owner_serves ready rfl rfl
  rw [meaning]
  exact ⟨fun good => congrArg _ (attentionSetRequest_sets tag (s.awaiting rest) good),
    fun reserved => congrArg _ (attentionSetRequest_badField tag (s.awaiting rest) reserved)⟩

/-! ## CLEAR (R173, R179) -/

/-- The three bytes of a CLEAR as its mask and its actions. -/
theorem clearBody_num16 (b0 b1 actions : Byte) :
    clearBody (BitVec.ofNat 16 (num16 b0 b1)) actions = [b0, b1, actions] := by
  have value : (BitVec.ofNat 16 (num16 b0 b1)).toNat = num16 b0 b1 := Nat.mod_eq_of_lt (num16_lt b0 b1)
  have low : BitVec.ofNat 8 (num16 b0 b1) = b0 :=
    BitVec.eq_of_toNat_eq (by simp only [num16, BitVec.toNat_ofNat]; omega)
  have high : BitVec.ofNat 8 (num16 b0 b1 / 256) = b1 :=
    BitVec.eq_of_toNat_eq (by simp only [num16, BitVec.toNat_ofNat]; omega)
  rw [clearBody, value]
  simp [bytesLE, low, high]

/-- The actions above EMPTY_QUEUE are named by the bits from 1 on. -/
theorem erasing_iff {actions : Byte} (named : actions.toNat < 16) : erasing actions = true ↔ 2 ≤ actions.toNat := by
  have all : ∀ a : BitVec 8, a.toNat < 16 → (erasing a = true ↔ 2 ≤ a.toNat) := by decide
  exact all actions named

/-- The actions of CLEAR, in the vocabulary of the statements, where EMPTY_QUEUE has no record to release. -/
theorem clearActions_eq {actions : Byte} {s : State} (still : s.rq.held = none ∨ actions.getLsbD 0 = false) :
    clearActions actions s =
      { s with
        rq := if actions.getLsbD 0 then { s.rq with records := [], lossMark := false } else s.rq
        ps := if actions.getLsbD 1 then { slots := Vector.replicate 64 Entry.zero, length := 0 } else s.ps
        fm.zones := if actions.getLsbD 1 then Vector.replicate 64 Zone.normal else s.fm.zones
        tm := if actions.getLsbD 2 then { pages := Vector.replicate 16 Page.erased } else s.tm
        dl.latch := if actions.getLsbD 3 then s.dl.rest else s.dl.latch } := by
  have emptied : actIf (actions.getLsbD 0) emptyQueueAction s =
      { s with rq := if actions.getLsbD 0 then { s.rq with records := [], lossMark := false } else s.rq } := by
    cases named : actions.getLsbD 0 with
    | false => rfl
    | true => exact emptyQueueAction_none (still.resolve_right (by simp [named]))
  have programErased (u : State) : actIf (actions.getLsbD 1) eraseProgramAction u =
      { u with
        ps := if actions.getLsbD 1 then { slots := Vector.replicate 64 Entry.zero, length := 0 } else u.ps
        fm.zones := if actions.getLsbD 1 then Vector.replicate 64 Zone.normal else u.fm.zones } := by
    cases actions.getLsbD 1 <;> rfl
  have mapsErased (u : State) : actIf (actions.getLsbD 2) eraseMapsAction u =
      { u with tm := if actions.getLsbD 2 then { pages := Vector.replicate 16 Page.erased } else u.tm } := by
    cases actions.getLsbD 2 <;> rfl
  have rested (u : State) : actIf (actions.getLsbD 3) restOutputsAction u =
      { u with dl.latch := if actions.getLsbD 3 then u.dl.rest else u.dl.latch } := by
    cases actions.getLsbD 3 <;> rfl
  rw [clearActions, emptied, programErased, mapsErased, rested]

/-- Settles O8: CLEAR by its three outcomes. -/
theorem clearTakesFlagsThenActions : Obligations.ClearTakesFlagsThenActions := by
  unfold Obligations.ClearTakesFlagsThenActions
  intro s tag b0 b1 a rest ready
  have value : (BitVec.ofNat 16 (num16 b0 b1)).toNat = num16 b0 b1 := Nat.mod_eq_of_lt (num16_lt b0 b1)
  have serves := exec_clear_clearBody tag (BitVec.ofNat 16 (num16 b0 b1)) a s
  rw [← clearBody_num16] at ready ⊢
  refine ⟨fun bad => ?_, fun good named active erases => ?_, fun good named allowed still => ?_⟩
  · rw [owner_serves ready serves rfl]
    exact congrArg _ (if_pos (value.symm ▸ bad))
  · exact exec_action_busy ready (value.trans_lt good) serves named ((erasing_iff named).mpr erases) active
  · have harmless : s.seq.state = .stopped ∨ erasing a = false := allowed.imp_right fun few => by
      rw [Bool.eq_false_iff, ne_eq, erasing_iff named]; omega
    have masked : (BitVec.ofNat 16 (num16 b0 b1)).setWidth 14 = BitVec.ofNat 14 (num16 b0 b1) := by
      simp [BitVec.setWidth_ofNat_of_le]
    rw [exec_action_acts ready (value.trans_lt good) serves named harmless, masked,
      clearActions_eq (s := clearFlags (BitVec.ofNat 14 (num16 b0 b1)) (s.awaiting rest)) still]
    rfl

/-! ## A request command not yet to be served (R159, R161, R163; log 2) -/

/-- The kinds with a length of their own are the kinds of requests (TABLE 10.1). -/
theorem mem_requestKinds (kind : Byte) :
    requestKinds.contains kind = true ↔ kind ∈ fixedLengths.map (·.1) ++ countedLengths.map (·.1) := by
  revert kind; decide

/-- The command of a frame of an unknown kind (R163). -/
theorem requestCommand_unknown {kind : Byte} (unknown : requestKinds.contains kind = false) (tag : Byte)
    (body : List Byte) : requestCommand kind tag body = .unknownKind kind tag body := by
  simp only [requestKinds, List.contains_eq_mem, List.mem_cons, List.not_mem_nil, or_false, decide_eq_false_iff_not,
    not_or] at unknown
  simp only [requestCommand, unknown, if_false]

/-- Where a frame can arrive, in the vocabulary of the statements. -/
theorem canArrive_iff (s : State) (body : List Byte) :
    s.canArrive body = true ↔
      ¬ (s.lp.inBreak = true ∨ s.lp.badStop = true ∨ s.pins.rstn = false ∨ 240 < body.length) ∧ s.lp.rx = .hunt := by
  simp only [State.canArrive, State.receiving, State.listening, Bool.and_eq_true, Bool.not_eq_true', decide_eq_true_eq,
    not_or, Bool.not_eq_true, Bool.not_eq_false, Nat.not_lt]
  constructor
  · rintro ⟨⟨⟨⟨quiet, up⟩, stop⟩, hunts⟩, fits⟩
    exact ⟨⟨quiet, stop, up, fits⟩, hunts⟩
  · rintro ⟨⟨quiet, stop, up, fits⟩, hunts⟩
    exact ⟨⟨⟨⟨quiet, up⟩, stop⟩, hunts⟩, fits⟩

/-- The arrival of a frame whose service may not begin, case by case (log 2). -/
theorem serve_unready {kind tag : Byte} {body : List Byte} {s : State}
    (unready : ∀ rest, ¬ s.ready ⟨kind, tag, body⟩ rest) (lengthOk : Bool) (owner : State → State) :
    serve kind tag body lengthOk owner s =
      if s.lp.inBreak = true ∨ s.lp.badStop = true ∨ s.pins.rstn = false ∨ 240 < body.length then s
      else if 5000 < s.lp.gap.getD 0 then
        serve kind tag body lengthOk owner
          { s with lp.rx := .hunt, lp.gap := none, lp.flags := s.lp.flags ||| Flag.linkError.bit }
      else if s.lp.rx ≠ .hunt then s
      else if 4 ≤ s.lp.requests.length then { s with lp.flags := s.lp.flags ||| Flag.linkError.bit }
      else if s.lp.service = .idle ∧ s.lp.reply = none ∧ s.lp.requests = [] then
        serve kind tag body lengthOk owner { s with lp.requests := [⟨kind, tag, body⟩] }
      else { s with lp.requests := s.lp.requests ++ [⟨kind, tag, body⟩] } := by
  by_cases closed : s.lp.inBreak = true ∨ s.lp.badStop = true ∨ s.pins.rstn = false ∨ 240 < body.length
  · rw [if_pos closed]
    refine serve_deaf unready ?_ lengthOk owner
    rw [Bool.eq_false_iff, ne_eq, canArrive_iff]
    exact fun ⟨open_, _⟩ => open_ (by simpa using closed)
  rw [if_neg closed]
  by_cases long : 5000 < s.lp.gap.getD 0
  · have judged := judgeGap_long long
    rw [if_pos long, ← judged]
    refine serve_late unready ?_ lengthOk owner
    rw [judged]
    exact (canArrive_iff _ _).mpr ⟨closed, rfl⟩
  have short : judgeGap s = s := judgeGap_short (Nat.not_lt.mp long)
  rw [if_neg long]
  by_cases hunts : s.lp.rx = .hunt
  · have arrives : s.canArrive body = true := (canArrive_iff s body).mpr ⟨closed, hunts⟩
    rw [if_neg (not_not.mpr hunts)]
    by_cases alone : s.lp.service = .idle ∧ s.lp.reply = none ∧ s.lp.requests = []
    · obtain ⟨free, empty, nobody⟩ := alone
      rw [if_neg (by simp [nobody]), if_pos ⟨free, empty, nobody⟩]
      exact serve_alone arrives short free empty nobody lengthOk owner
    · rw [serve_waits arrives short unready alone]
      by_cases full : 4 ≤ s.lp.requests.length
      · rw [if_pos full, joinBuffer_full full]
      · rw [if_neg full, if_neg alone, joinBuffer_room (Nat.not_le.mp full)]
  · rw [if_pos hunts]
    refine serve_deaf unready ?_ lengthOk owner
    rw [short, Bool.eq_false_iff, ne_eq, canArrive_iff]
    exact fun ⟨_, hunt⟩ => hunts hunt

/-- Settles O12: the REFUSE of an unknown kind, and the arrival of a frame. -/
theorem requestsAreServedByKind : Obligations.RequestsAreServedByKind := by
  unfold Obligations.RequestsAreServedByKind
  refine ⟨fun s kind tag body rest unlisted => ?_, fun s kind tag body unready => ?_⟩
  · have unknown : requestKinds.contains kind = false := by
      rw [Bool.eq_false_iff, ne_eq, mem_requestKinds]
      exact unlisted
    refine ⟨requestCommand_unknown unknown tag body, fun ready => ?_⟩
    have meaning : exec (.unknownKind kind tag body) s =
        .next (serve kind tag body true (refuse kind tag .unknownKind) s) :=
      congrArg _ (if_neg (by rw [unknown]; nofun))
    rw [served ready meaning, if_pos rfl, refuse_takeRequest ready]
  · obtain ⟨lengthOk, owner, serves⟩ := requestCommand_serves kind tag body
    simp only [serves]
    rw [serve_unready unready]
    split_ifs <;> rfl

end Sys2Proof.Machine
end

section
/-! PROOFS. The receiver: what each byte does by its state, its errors, and a whole frame byte by byte (O33, O34). -/

namespace Sys2Proof.Machine

/-! ## A byte received, by the receiver's state (TABLE 9.3) -/

/-- The receiver has taken a byte into the frame: it stands here, the gap timer restarted (R158, R159). -/
def State.receivedTo (s : State) (rx : Receiver) : State := { s with lp.rx := rx, lp.gap := some 0 }

theorem keepByte_eq (rx : Receiver) (s : State) : keepByte rx s = s.receivedTo rx := rfl

theorem receiving_iff (s : State) :
    s.receiving = true ↔ s.lp.inBreak = false ∧ s.lp.badStop = false ∧ s.pins.rstn = true := by
  simp only [State.receiving, State.listening, Bool.and_eq_true, Bool.not_eq_true']
  tauto

section Bytes

variable {s : State} {b : Byte}

/-- A byte on a line that is received, the gap before it not too long, is the receiver's. -/
theorem byteReceived_takes (receives : s.receiving = true) (short : s.lp.gap.getD 0 ≤ 5000) :
    exec (.byteReceived b) s = .next (takeByte b s) :=
  congrArg _ ((if_pos receives).trans (by rw [judgeGap_short short]))

/-- A byte after too long a gap is judged in HUNT, the partial frame being given up (R159). -/
theorem byteReceived_late (receives : s.receiving = true) (long : 5000 < s.lp.gap.getD 0) :
    exec (.byteReceived b) s = .next (takeByte b (linkError s)) :=
  congrArg _ ((if_pos receives).trans (by rw [judgeGap_long long]; rfl))

/-- No byte is received in a break or while the receiver waits for LRX to rise (R160, R167). -/
theorem byteReceived_deaf (deaf : s.lp.inBreak = true ∨ s.lp.badStop = true) :
    exec (.byteReceived b) s = .next s := by
  refine congrArg _ (if_neg ?_)
  rw [receiving_iff]
  rintro ⟨quiet, high, -⟩
  obtain breaks | low := deaf
  · cases quiet.symm.trans breaks
  · cases high.symm.trans low

theorem takeByte_hunt (rx : s.lp.rx = .hunt) :
    takeByte b s = if b = 0xC3 then s.receivedTo .headerLen else s := by
  simp only [takeByte, rx]
  rfl

theorem takeByte_len (rx : s.lp.rx = .headerLen) (fits : b.toNat ≤ 240) :
    takeByte b s = s.receivedTo (.headerKind b) := by
  simp only [takeByte, rx]
  exact if_neg (Nat.not_lt.mpr fits)

theorem takeByte_len_error (rx : s.lp.rx = .headerLen) (long : 240 < b.toNat) : takeByte b s = linkError s := by
  simp only [takeByte, rx]
  exact if_pos long

theorem takeByte_kind {len : Byte} (rx : s.lp.rx = .headerKind len) :
    takeByte b s = s.receivedTo (.headerTag len b) := by
  simp only [takeByte, rx, keepByte_eq]

theorem takeByte_tag {len kind : Byte} (rx : s.lp.rx = .headerTag len kind) :
    takeByte b s = s.receivedTo (if len = 0 then .check len kind b [] else .body len kind b []) := by
  simp only [takeByte, rx, keepByte_eq]
  split_ifs <;> rfl

theorem takeByte_body {len kind tag : Byte} {taken : List Byte} (rx : s.lp.rx = .body len kind tag taken) :
    takeByte b s =
      s.receivedTo (if taken.length + 1 = len.toNat then .check len kind tag (taken ++ [b])
        else .body len kind tag (taken ++ [b])) := by
  simp only [takeByte, rx, keepByte_eq]
  split_ifs <;> rfl

theorem takeByte_check {len kind tag : Byte} {taken : List Byte} (rx : s.lp.rx = .check len kind tag taken) :
    takeByte b s = completeFrame len kind tag taken b s := by
  simp only [takeByte, rx]

section Frames

variable {len kind tag : Byte} {taken : List Byte}

/-- A good frame joins the buffer where a slot is free (R161). -/
theorem completeFrame_joins (sum : byteSum ([len, kind, tag] ++ taken ++ [b]) = 0) (room : s.lp.requests.length < 4) :
    completeFrame len kind tag taken b s =
      { s with lp.rx := .hunt, lp.gap := none, lp.requests := s.lp.requests ++ [⟨kind, tag, taken⟩] } :=
  (if_neg (not_not.mpr sum)).trans (joinBuffer_room room)

/-- A frame with a wrong sum, or with no slot free, is lost with LINK_ERROR (R161). -/
theorem completeFrame_error (bad : byteSum ([len, kind, tag] ++ taken ++ [b]) ≠ 0 ∨ 4 ≤ s.lp.requests.length) :
    completeFrame len kind tag taken b s = linkError s := by
  unfold completeFrame
  split_ifs with wrong
  · rfl
  · exact joinBuffer_full (bad.resolve_left wrong)

/-- FRAME_COMPLETE is BYTE_RECEIVED's own case of a CHK byte (log 7). -/
theorem frameComplete_check (short : s.lp.gap.getD 0 ≤ 5000) (rx : s.lp.rx = .check len kind tag taken) :
    exec (.frameComplete b) s = exec (.byteReceived b) s := by
  show execFrameComplete b s = _
  simp only [execFrameComplete, judgeGap_short short, rx]
  rfl

end Frames

/-- LEN_ERROR is BYTE_RECEIVED's own case of a LEN byte above 240 (log 7). -/
theorem lenError_len (short : s.lp.gap.getD 0 ≤ 5000) (rx : s.lp.rx = .headerLen) (long : 240 < b.toNat) :
    exec (.lenError b) s = exec (.byteReceived b) s :=
  congrArg _ (if_pos ⟨by rw [judgeGap_short short]; exact rx, long⟩)

end Bytes

/-! ## Framing errors (R160) -/

section Framing

variable {s : State} (quiet : s.lp.inBreak = false) (up : s.pins.rstn = true)

include quiet up

theorem listening_of_quiet : s.listening = true := by simp [State.listening, quiet, up]

/-- A low stop bit with LRX still low: the receiver waits (log 6). -/
theorem framingError_low (low : s.pins.lrx = false) :
    exec .framingError s = .next { s with lp.badStop := true } :=
  congrArg _ ((if_pos (listening_of_quiet quiet up)).trans (if_neg (by simp [low])))

theorem framingError_high (high : s.pins.lrx = true) : exec .framingError s = .next (framingError s) :=
  congrArg _ ((if_pos (listening_of_quiet quiet up)).trans (if_pos high))

end Framing

/-! ## Bytes on the line and sums (R156, R161) -/

/-- The levels of a byte: a start bit, the data bits from the least significant up, a stop bit. -/
theorem byteLevels_eq (b : Byte) : byteLevels b = [false] ++ (List.range 8).map b.getLsbD ++ [true] := rfl

/-- The same levels with the stop bit low bring FRAMING_ERROR (R160; log 5). -/
theorem lineCommand_low_stop (b : Byte) : lineCommand ((byteLevels b).take 9 ++ [false]) = some .framingError := rfl

theorem byteSum_eq_sum (bytes : List Byte) : byteSum bytes = bytes.sum := List.sum_eq_foldl.symm

theorem byteSum_toNat (bytes : List Byte) : (byteSum bytes).toNat = (bytes.map (·.toNat)).sum % 256 := by
  induction bytes with
  | nil => rfl
  | cons b bytes ih => rw [byteSum_eq_sum, List.sum_cons, ← byteSum_eq_sum, BitVec.toNat_add, ih, List.map_cons,
      List.sum_cons, Nat.add_mod_mod]

theorem rdy_iff (s : State) : rdy s = true ↔ s.pins.rstn = true ∧ s.lp.requests.length < 4 := by
  rw [rdy, Bool.and_eq_true, decide_eq_true_eq]
  rfl

/-- Settles O33: the receiver's states one by one, its errors, the levels of the line, RDY and the sums. -/
theorem receiverTakesBytes : Obligations.ReceiverTakesBytes := by
  unfold Obligations.ReceiverTakesBytes
  refine ⟨fun s b quiet high up short => ?_, fun s quiet up => ?_, fun s b quiet high up long => ?_,
    fun s b deaf => byteReceived_deaf deaf, fun s breaks => ?_,
    fun b => ⟨byteLevels_eq b, lineCommand_byteLevels b, lineCommand_low_stop b⟩, rdy_iff, byteSum_toNat⟩
  · have takes : exec (.byteReceived b) s = .next (takeByte b s) :=
      byteReceived_takes ((receiving_iff s).mpr ⟨quiet, high, up⟩) short
    refine ⟨fun rx => ?_, fun rx => ⟨fun fits => ?_, fun long => ?_⟩, fun len rx => ?_, fun len kind rx => ?_,
      fun len kind tag taken rx => ?_, fun len kind tag taken rx => ?_, congrArg _ (judgeGap_short short)⟩
    · rw [takes, takeByte_hunt rx]; rfl
    · rw [takes, takeByte_len rx fits]; rfl
    · rw [lenError_len short rx long, takes, takeByte_len_error rx long]
      exact ⟨rfl, rfl⟩
    · rw [takes, takeByte_kind rx]; rfl
    · rw [takes, takeByte_tag rx]; rfl
    · rw [takes, takeByte_body rx]; rfl
    · rw [frameComplete_check short rx, takes, takeByte_check rx]
      exact ⟨rfl, fun sum room => congrArg _ (completeFrame_joins sum room),
        fun bad => congrArg _ (completeFrame_error bad)⟩
  · refine ⟨framingError_low quiet up, fun rises partial_ => ?_, fun rises hunts => ?_⟩
    · rw [framingError_high quiet up rises]
      exact congrArg _ (if_neg partial_)
    · rw [framingError_high quiet up rises]
      exact congrArg _ (if_pos hunts)
  · have receives : s.receiving = true := (receiving_iff s).mpr ⟨quiet, high, up⟩
    refine ⟨congrArg _ (judgeGap_long long), ?_⟩
    rw [byteReceived_late receives long, takeByte_hunt rfl]
    rfl
  · exact congrArg _ (if_neg (by simp [State.listening, breaks]))

/-! ## A whole frame, byte by byte (TABLE 9.2) -/

section Frame

variable {s : State} (receives : s.receiving = true)

include receives

/-- A byte that leads to a state leaves the rest of the frame to it. -/
theorem receiveAll_cons {b : Byte} {rest : List Byte} {rx : Receiver} {t : State}
    (takes : takeByte b (s.receivedTo rx) = t) :
    receiveAll (b :: rest) (s.receivedTo rx) = receiveAll rest t := by
  have next : exec (.byteReceived b) (s.receivedTo rx) = .next t :=
    (byteReceived_takes (s := s.receivedTo rx) receives (Nat.zero_le _)).trans (congrArg _ takes)
  simp only [receiveAll, next]

theorem receiveAll_keeps {b : Byte} {rest : List Byte} {rx next : Receiver}
    (takes : takeByte b (s.receivedTo rx) = (s.receivedTo rx).receivedTo next) :
    receiveAll (b :: rest) (s.receivedTo rx) = receiveAll rest (s.receivedTo next) :=
  receiveAll_cons receives takes

/-- The bytes of the body are taken one after the other, in order (R158). -/
theorem receiveAll_body {len kind tag : Byte} (after : List Byte) :
    ∀ (todo taken : List Byte), todo ≠ [] → taken.length + todo.length = len.toNat →
      receiveAll (todo ++ after) (s.receivedTo (.body len kind tag taken)) =
        receiveAll after (s.receivedTo (.check len kind tag (taken ++ todo)))
  | [], _, some_left, _ => absurd rfl some_left
  | [b], taken, _, whole => by
    have last : taken.length + 1 = len.toNat := whole
    have takes := takeByte_body (s := s.receivedTo (.body len kind tag taken)) (b := b) rfl
    rw [if_pos last] at takes
    exact receiveAll_keeps receives takes
  | b :: c :: todo, taken, _, whole => by
    simp only [List.length_cons] at whole
    have more : ¬ taken.length + 1 = len.toNat := by omega
    have takes := takeByte_body (s := s.receivedTo (.body len kind tag taken)) (b := b) rfl
    rw [if_neg more] at takes
    rw [List.cons_append, receiveAll_keeps receives takes,
      receiveAll_body after (c :: todo) (taken ++ [b]) (by simp) (by simp; omega), List.append_assoc]
    rfl

/-- From the TAG to CHK: the body, if there is one, is taken whole (R158). -/
theorem receiveAll_afterTag {len kind tag : Byte} {body : List Byte} (whole : len.toNat = body.length)
    (after : List Byte) :
    receiveAll (body ++ after) (s.receivedTo (if len = 0 then .check len kind tag [] else .body len kind tag [])) =
      receiveAll after (s.receivedTo (.check len kind tag body)) := by
  by_cases empty : body = []
  · have zero : len = 0 := BitVec.eq_of_toNat_eq (by rw [whole, empty]; rfl)
    rw [if_pos zero, empty]
    rfl
  · have some_left : len ≠ 0 := fun zero => empty (List.eq_nil_of_length_eq_zero (by rw [← whole, zero]; rfl))
    rw [if_neg some_left]
    exact receiveAll_body receives after body [] empty (by rw [whole]; exact Nat.zero_add _)

end Frame

/-- CHK makes the sum of the frame zero (R157). -/
theorem chk_sum (f : Frame) : byteSum ([BitVec.ofNat 8 f.body.length, f.kind, f.tag] ++ f.body ++ [f.chk]) = 0 := by
  have chk : f.chk = 0 - ([BitVec.ofNat 8 f.body.length, f.kind, f.tag] ++ f.body).sum :=
    congrArg _ (byteSum_eq_sum _)
  rw [byteSum_eq_sum, List.sum_append, List.sum_singleton, chk, zero_sub, add_neg_cancel]

/-- Settles O34: the start byte, the header, the body by `receiveAll_body`, and the CHK that `chk_sum` makes right. -/
theorem frameBytesJoinTheBuffer : Obligations.FrameBytesJoinTheBuffer := by
  unfold Obligations.FrameBytesJoinTheBuffer
  intro s f quiet high up hunts idle room fits
  have receives : s.receiving = true := (receiving_iff s).mpr ⟨quiet, high, up⟩
  have back : ({ s with lp.rx := .hunt, lp.gap := none } : State) = s := by rw [← hunts, ← idle]
  have start : takeByte 0xC3 s = s.receivedTo .headerLen := by rw [takeByte_hunt hunts, if_pos rfl]
  have begun : exec (.byteReceived 0xC3) s = .next (s.receivedTo .headerLen) := by
    rw [byteReceived_takes receives (by rw [idle]; exact Nat.zero_le _), start]
  generalize size : BitVec.ofNat 8 f.body.length = len
  have whole : len.toNat = f.body.length := by rw [← size]; exact Nat.mod_eq_of_lt (by omega)
  have bytes : f.bytes = 0xC3 :: len :: f.kind :: f.tag :: (f.body ++ [f.chk]) := by rw [← size]; rfl
  have joins : takeByte f.chk (s.receivedTo (.check len f.kind f.tag f.body)) =
      { s with lp.requests := s.lp.requests ++ [f] } := by
    have sum : byteSum ([len, f.kind, f.tag] ++ f.body ++ [f.chk]) = 0 := by rw [← size]; exact chk_sum f
    rw [takeByte_check rfl, completeFrame_joins (s := s.receivedTo _) sum room]
    exact congrArg (fun t : State => { t with lp.requests := s.lp.requests ++ [f] }) back
  rw [bytes, receiveAll, begun]
  dsimp only
  rw [receiveAll_keeps receives (takeByte_len rfl (whole ▸ fits)), receiveAll_keeps receives (takeByte_kind rfl),
    receiveAll_keeps receives (takeByte_tag rfl), receiveAll_afterTag receives whole, receiveAll_cons receives joins]
  rfl

end Sys2Proof.Machine
end

section
/-! PROOFS. Breaks, the transmitter, and the reset that follows the reply of RESET (O11, O35, O36). -/

namespace Sys2Proof.Machine

/-! ## The end of a reply (R165, R168) -/

/-- Any reply but that of RESET leaves the port with its buffer empty and does nothing else (R165). -/
theorem endReply_other {s : State} {r : Transmission} (other : r.reply.kind ≠ 0x85) :
    endReply r s = { s with lp.reply := none } := if_neg other

/-- The reply of RESET brings the reset about (R175). -/
theorem endReply_reset {s : State} {r : Transmission} (reset : r.reply.kind = 0x85) :
    endReply r s = resetEffect { s with lp.reply := none } := if_pos reset

theorem cutReply_other {s : State} {r : Transmission} (other : r.reply.kind ≠ 0x85) :
    cutReply r s = { s with lp.reply := none, lp.flags := s.lp.flags ||| Flag.linkBreak.bit } := by
  rw [cutReply, endReply_other other]; rfl

/-! ## Breaks (R167, R168) -/

/-- Twenty bit times in whole microseconds, at each speed (R167). -/
theorem breakMicros_eq (speed : Speed) : speed.breakMicros = breakTime speed := by cases speed <;> rfl

theorem breakDue_iff (s : State) :
    s.breakDue = true ↔ s.lp.inBreak = false ∧ s.pins.lrx = false ∧ breakTime s.lp.speed ≤ s.lp.lowFor := by
  simp only [State.breakDue, breakMicros_eq, Bool.and_eq_true, Bool.not_eq_true', decide_eq_true_eq, and_assoc]

theorem linkBreak_breaks {s : State} (due : s.breakDue = true) :
    exec .linkBreak s = .next (breakReply (breakPort s)) := congrArg _ (if_pos due)

section Break

variable {s : State}

theorem breakReply_none (empty : s.lp.reply = none) : breakReply s = raise .linkBreak s := by
  simp only [breakReply, empty]

variable {r : Transmission} (sends : s.lp.reply = some r)

include sends

theorem breakReply_sending (started : r.waiting = false) :
    breakReply s = { s with lp.reply := some { r with cut := true } } := by
  simp only [breakReply, sends]
  exact if_neg (by rw [started]; nofun)

theorem breakReply_waiting (waits : r.waiting = true) : breakReply s = cutReply r s := by
  simp only [breakReply, sends]
  exact if_pos waits

end Break

/-- Settles O35: a break by what the reply buffer holds, and its end. -/
theorem breakClearsTheLink : Obligations.BreakClearsTheLink := by
  unfold Obligations.BreakClearsTheLink
  refine ⟨fun s quiet low long => ?_, fun s breaks high => ?_⟩
  · intro broken
    have breaks := linkBreak_breaks ((breakDue_iff s).mpr ⟨quiet, low, long⟩)
    refine ⟨fun empty => ?_, fun r sends started => ?_, fun r sends waits other => ?_⟩
    · rw [breaks, breakReply_none (s := breakPort s) empty]
      rfl
    · rw [breaks, breakReply_sending (s := breakPort s) sends started]
      rfl
    · rw [breaks, breakReply_waiting (s := breakPort s) sends waits, cutReply_other other]
      rfl
  · exact congrArg _ (if_pos (by simp [State.breakEndDue, breaks, high]))

/-! ## The transmitter (R165, R166, R168) -/

section Transmitter

variable {s : State} {r : Transmission} (sends : s.lp.reply = some r)

include sends

section Going

variable (started : r.waiting = false)

include started

/-- A byte other than the last: HOLDN is tested, and what is over of the clock goes to the next
(R166; log 6, log 17). -/
theorem replyByteSent_goes_on (more : r.sent + 1 < r.reply.size) (whole : r.cut = false) :
    exec .replyByteSent s =
      .next { s with lp.reply := some { r with sent := r.sent + 1, waiting := !s.pins.holdn,
                                               clock := if s.pins.holdn then r.clock - 10000000 else 0 } } := by
  show execReplyByteSent s = _
  simp only [execReplyByteSent, sends, started, more, and_self, if_true, whole, Bool.false_eq_true, if_false]
  rfl

theorem replyByteSent_cut (more : r.sent + 1 < r.reply.size) (cut : r.cut = true) :
    exec .replyByteSent s = .next (cutReply r s) := by
  show execReplyByteSent s = _
  simp only [execReplyByteSent, sends, started, more, and_self, if_true, cut]

theorem replySent_ends (last : r.sent + 1 = r.reply.size) (whole : r.cut = false) :
    exec .replySent s = .next (endReply r s) := by
  show execReplySent s = _
  simp only [execReplySent, sends, started, last, and_self, if_true, whole, Bool.false_eq_true, if_false]

theorem replySent_cut (last : r.sent + 1 = r.reply.size) (cut : r.cut = true) :
    exec .replySent s = .next (cutReply r s) := by
  show execReplySent s = _
  simp only [execReplySent, sends, started, last, and_self, if_true, cut]

end Going

theorem holdnRelease_starts (waits : r.waiting = true) (high : s.pins.holdn = true) :
    exec .holdnRelease s = .next { s with lp.reply := some { r with waiting := false, clock := 0 } } := by
  have due : s.holdReleaseDue = true := by simp [State.holdReleaseDue, sends, waits, high]
  show execHoldnRelease s = _
  simp only [execHoldnRelease, sends, due, if_true]

/-! ### LTX (R156, R165, R166) -/

theorem ltx_waiting (waits : r.waiting = true) : ltx s = true := by simp only [ltx, sends, waits, Bool.true_or]

/-- While a byte goes out LTX is at the level its clock has reached; past its stop bit it is high (R156). -/
theorem ltx_sending {b : Byte} (started : r.waiting = false) (byte : r.reply.bytes[r.sent]? = some b) {bit : Nat}
    (least : bit * 1000000 ≤ r.clock) (most : r.clock < (bit + 1) * 1000000) :
    ltx s = ((byteLevels b)[bit]?).getD true := by
  have reached : r.clock / Config.bitTime = bit := Nat.div_eq_of_lt_le least most
  simp only [ltx, sends, started, byte, reached, Bool.false_or, Option.getD_some]

end Transmitter

/-- The data bits stand after the start bit, the least significant first (R156). -/
theorem byteLevels_data (b : Byte) {k : Nat} (data : k < 8) : (byteLevels b)[k + 1]? = some (b.getLsbD k) := by
  interval_cases k <;> rfl

/-- From the stop bit on the level is high (R156). -/
theorem byteLevels_stop (b : Byte) {k : Nat} (stop : 9 ≤ k) : ((byteLevels b)[k]?).getD true = true := by
  obtain rfl | after := stop.eq_or_lt
  · rfl
  · rw [List.getElem?_eq_none (show (byteLevels b).length ≤ k from after)]
    rfl

/-- The envelope of a frame (TABLE 9.2). -/
theorem frame_envelope (f : Frame) : ∃ chk,
    f.bytes = [0xC3, BitVec.ofNat 8 f.body.length, f.kind, f.tag] ++ f.body ++ [chk] ∧
    byteSum (f.bytes.drop 1) = 0 ∧ f.bytes.length = f.size ∧ f.size = f.body.length + 5 :=
  ⟨f.chk, rfl, chk_sum f, by simp [Frame.bytes, Frame.size], rfl⟩

/-- Settles O36: the ends of a byte by what follows it, the release of HOLDN, LTX bit by bit, and the envelope. -/
theorem transmitterSendsTheReply : Obligations.TransmitterSendsTheReply := by
  unfold Obligations.TransmitterSendsTheReply
  refine ⟨fun s r sends => ⟨replyByteSent_goes_on sends, fun started last whole other => ?_,
    fun started cut other => ⟨fun more => ?_, fun last => ?_⟩, holdnRelease_starts sends, ltx_waiting sends,
    fun b started byte => ⟨fun least => ?_, fun k data least most => ?_, fun stop => ?_⟩⟩, fun s empty => ?_,
    frame_envelope⟩
  · rw [replySent_ends sends started last whole, endReply_other other]
  · rw [replyByteSent_cut sends started more cut, cutReply_other other]
  · rw [replySent_cut sends started last cut, cutReply_other other]
  · rw [ltx_sending sends started byte (Nat.zero_le _) (bit := 0) (by omega)]
    rfl
  · rw [ltx_sending sends started byte least most, byteLevels_data b data]
    rfl
  · have reached : 9 ≤ r.clock / 1000000 := by omega
    rw [ltx_sending sends started byte (bit := r.clock / 1000000) (by omega) (by omega), byteLevels_stop b reached]
  · simp only [ltx, empty]

/-! ## RESET (R44, R168, R175) -/

theorem enterStopped_reset_lp (s : State) : (enterStopped .reset s).lp = s.lp := by
  unfold enterStopped
  simp only [if_true, stopTriggers_frame, writeRest_frame, boundary_frame, haltSequencer_frame]

theorem resetStop_eq (s : State) : resetStop s = enterStopped .reset s.withoutStep := by
  rw [resetStop, discardHeld_abandonStep]

/-- Of the port a reset clears the flags alone (R175). -/
theorem resetEffect_lp (s : State) : (resetEffect s).lp = { s.lp with flags := 0 } := by
  unfold resetEffect
  split_ifs
  · rw [resetStop_eq, resetBlocks, enterStopped_reset_lp]
    rfl
  · rfl

/-- Without a run the reset acts on the blocks alone. -/
theorem resetBlocks_done {s : State} (stopped : s.seq.state = .stopped) : ResetDone s (resetBlocks s) where
  program := rfl
  sequencer := by simp [resetBlocks, stopped]
  triggers := rfl
  outputs := ⟨rfl, rfl⟩
  converter := rfl
  still _ := ⟨rfl, rfl, rfl⟩
  boundary active := absurd stopped active
  formatter := ⟨rfl, rfl, rfl, rfl⟩
  checks := rfl
  queue := rfl

/-- A run is stopped with cause RESET first, which is a pass boundary (R42, R44). -/
theorem resetStopped_done {s : State} (active : s.seq.state ≠ .stopped) : ResetDone s (resetBlocks (resetStop s)) := by
  rw [resetStop_eq]
  exact {
    program := by simp [resetBlocks, State.withoutStep]
    sequencer := by simp [resetBlocks, enterStopped_seq, State.withoutStep, active]
    triggers := by simp [resetBlocks, enterStopped_tu, State.withoutStep]
    outputs := by simp [resetBlocks, State.withoutStep]
    converter := by simp [resetBlocks, State.withoutStep]
    still := fun stopped => absurd stopped active
    boundary := fun _ => by
      refine ⟨fun i => ?_, fun i => ?_⟩
      · simp only [resetBlocks, enterStopped_fm]
        exact ⟨install_active _ i, install_staged _ i⟩
      · simp only [resetBlocks, enterStopped_tm]
        exact flipPending_page _ i
    formatter := by simp [resetBlocks, State.withoutStep]
    checks := by simp [resetBlocks, State.withoutStep, CheckUnit.load]
    queue := by simp [resetBlocks, State.withoutStep] }

theorem resetEffect_done (s : State) : ResetDone s (resetEffect s) := by
  unfold resetEffect
  split_ifs with active
  · exact resetStopped_done (by simpa [State.active, AcqState.active] using active)
  · exact resetBlocks_done (stopped_of_inactive active)

/-- What a reset leaves outside the port does not look at the port. -/
theorem ResetDone.with_lp {s t : State} (before after : LinkPort) (done : ResetDone s t) :
    ResetDone { s with lp := before } { t with lp := after } := by
  obtain ⟨program, sequencer, triggers, outputs, converter, still, boundary, formatter, checks, queue⟩ := done
  exact ⟨program, sequencer, triggers, outputs, converter, still, boundary, formatter, checks, queue⟩

section ResetReply

variable {s : State} {r : Transmission} (reset : r.reply.kind = 0x85)

include reset

/-- The reply of RESET sent in full (R175). -/
theorem endReply_resets : ResetDone s (endReply r s) ∧ (endReply r s).lp = { s.lp with reply := none, flags := 0 } := by
  rw [endReply_reset reset]
  exact ⟨(resetEffect_done { s with lp.reply := none }).with_lp s.lp _, resetEffect_lp _⟩

/-- The reply of RESET cut by a break: LINK_BREAK stands after the reset (R168). -/
theorem cutReply_resets :
    ResetDone s (cutReply r s) ∧ (cutReply r s).lp = { s.lp with reply := none, flags := Flag.linkBreak.bit } := by
  obtain ⟨done, lp⟩ := endReply_resets (s := s) reset
  refine ⟨done.with_lp s.lp _, ?_⟩
  rw [cutReply, raise, lp]
  exact congrArg (fun flags => { s.lp with reply := none, flags := flags }) (BitVec.zero_or (x := Flag.linkBreak.bit))

end ResetReply

/-- Settles O11: the ACK, and the reset at each of the four ends of that reply. -/
theorem resetTakesEffectAfterItsReply : Obligations.ResetTakesEffectAfterItsReply := by
  unfold Obligations.ResetTakesEffectAfterItsReply
  refine ⟨fun s tag rest ready => ?_, fun s r sends reset => ⟨fun started last whole => ?_,
    fun started more cut => ?_, fun started last cut => ?_, fun waits quiet low long => ?_⟩⟩
  · exact (owner_serves ready rfl rfl).trans (congrArg _ (ack_answered kindReset tag [] (s.awaiting rest)))
  · exact ⟨_, replySent_ends sends started last whole, endReply_resets reset⟩
  · exact ⟨_, replyByteSent_cut sends started more cut, cutReply_resets reset⟩
  · exact ⟨_, replySent_cut sends started last cut, cutReply_resets reset⟩
  · have breaks := linkBreak_breaks ((breakDue_iff s).mpr ⟨quiet, low, long⟩)
    rw [breakReply_waiting (s := breakPort s) sends waits] at breaks
    obtain ⟨done, lp⟩ := cutReply_resets (s := breakPort s) reset
    exact ⟨_, breaks, done.with_lp s.lp (cutReply r (breakPort s)).lp, lp⟩

end Sys2Proof.Machine
end

section
/-! PROOFS. With an empty queue: the event that is due, or a microsecond (O2). -/

namespace Sys2Proof.Machine

/-! ## When the part's own events are due, in the vocabulary of the statements -/

section Due

variable (s : State)

theorem conversionDue_iff : s.conversionDue = true ↔ s.eventDue .conversionEnd := by
  simp only [State.conversionDue, State.eventDue]
  cases s.cv.claim <;> simp

theorem sampleSettleDue_iff : s.sampleSettleDue = true ↔ s.eventDue .sampleSettleExpiry := by
  simp only [State.sampleSettleDue, State.eventDue]
  cases s.lp.service <;> simp

theorem commitDone_iff : s.commitDone = true ↔ s.eventDue .mapCommitCompletion := by
  simp only [State.commitDone, State.eventDue]
  cases s.lp.service
  case commit =>
    simp only [Bool.and_eq_true, decide_eq_true_eq, Service.commit.injEq, exists_eq', exists_and_left, and_true]
    exact Iff.rfl
  all_goals simp

theorem gapExceeded_iff : s.gapExceeded = true ↔ s.eventDue .gapTimeout := by
  simp only [State.gapExceeded, State.eventDue]
  cases s.lp.gap with
  | none => simp
  | some n =>
    simp only [decide_eq_true_eq, Option.some.injEq, exists_eq_left']
    exact Iff.rfl

theorem framingDue_iff : s.framingDue = true ↔ s.eventDue .framingError := by
  simp only [State.framingDue, State.listening, State.eventDue, Bool.and_eq_true, Bool.not_eq_true']
  tauto

theorem byteEnd_more_iff : s.byteEnd false = true ↔ s.eventDue .replyByteSent := by
  simp only [State.byteEnd, State.eventDue]
  cases s.lp.reply with
  | none => simp
  | some r =>
    simp only [Bool.and_eq_true, Bool.not_eq_true', decide_eq_true_eq, if_false, Bool.false_eq_true,
      Option.some.injEq, exists_eq_left', and_assoc]
    exact Iff.rfl

theorem byteEnd_last_iff : s.byteEnd true = true ↔ s.eventDue .replySent := by
  simp only [State.byteEnd, State.eventDue]
  cases s.lp.reply with
  | none => simp
  | some r =>
    simp only [Bool.and_eq_true, Bool.not_eq_true', decide_eq_true_eq, if_true, Option.some.injEq,
      exists_eq_left', and_assoc]
    exact Iff.rfl

theorem holdReleaseDue_iff : s.holdReleaseDue = true ↔ s.eventDue .holdnRelease := by
  simp only [State.holdReleaseDue, State.eventDue]
  cases s.lp.reply <;> simp

/-- Each of the part's own events is due just where the rules say so. -/
theorem events_iff : ∀ e ∈ s.events, (e.1 = true ↔ s.eventDue e.2) := by
  simp only [State.events, List.forall_mem_cons, List.not_mem_nil, false_implies, implies_true, and_true]
  refine ⟨conversionDue_iff s, ?_, sampleSettleDue_iff s, ?_, ?_, ?_, ?_, ?_, ?_, commitDone_iff s, gapExceeded_iff s,
    framingDue_iff s, breakDue_iff s, ?_, byteEnd_more_iff s, byteEnd_last_iff s, holdReleaseDue_iff s⟩
  all_goals
    simp only [State.settleDue, State.stepTimerDue, State.cmpDue, State.lineDue, State.pacerDue, State.monitorDue,
      State.absorbDue, State.breakEndDue, State.eventDue, Bool.and_eq_true, decide_eq_true_eq, and_assoc]
  exact Iff.rfl

theorem portFree_iff : s.portFree = true ↔ s.lp.service = .idle ∧ s.lp.reply = none := by
  simp only [State.portFree, Bool.and_eq_true, decide_eq_true_eq, Option.isNone_iff_eq_none]

/-- The service that may begin is that of the head request (R163). -/
theorem serviceDue_iff (c : Instr) :
    s.serviceDue = some c ↔ ∃ f rest, s.ready f rest ∧ c = requestCommand f.kind f.tag f.body := by
  unfold State.serviceDue State.ready
  constructor
  · intro serves
    split at serves
    case isTrue free =>
      obtain ⟨idle, quiet⟩ := (portFree_iff s).mp free
      cases requests : s.lp.requests with
      | nil => rw [requests] at serves; cases serves
      | cons f rest => rw [requests] at serves; exact ⟨f, rest, ⟨idle, quiet, rfl⟩, (Option.some.inj serves).symm⟩
    case isFalse => cases serves
  · rintro ⟨f, rest, ⟨idle, quiet, requests⟩, rfl⟩
    rw [if_pos ((portFree_iff s).mpr ⟨idle, quiet⟩), requests]

/-- A command that is none of the part's own events is due where it is the service that may begin. -/
theorem eventDue_foreign {c : Instr} (foreign : ∀ e ∈ s.events, e.2 ≠ c) :
    s.eventDue c ↔ ∃ f rest, s.ready f rest ∧ c = requestCommand f.kind f.tag f.body := by
  cases c
  case conversionEnd | settleExpiry | sampleSettleExpiry | stepTimerExpiry | comparatorSample | lineWatcherSample |
      pacerExpiry | monitorIntervalExpiry | unitBAbsorb | mapCommitCompletion | gapTimeout | framingError | linkBreak |
      breakEnd | replyByteSent | replySent | holdnRelease =>
    simp [State.events] at foreign
  all_goals rfl

end Due

/-- Settles O2: `due` is an event or a service that is due, and names one where there is one. -/
theorem idleStepTakesDueEventOrTick : Obligations.IdleStepTakesDueEventOrTick := by
  unfold Obligations.IdleStepTakesDueEventOrTick
  intro s empty
  have idles : step s = idle s := by rw [step, empty]
  refine ⟨fun c due => ⟨by rw [idles, idle, due], ?_⟩, fun quiet => ⟨by rw [idles, idle, quiet], fun c isDue => ?_⟩⟩
  · obtain own | serves := due_some due
    · exact (events_iff s _ own).mp rfl
    · obtain ⟨f, rest, ready, rfl⟩ := (serviceDue_iff s c).mp serves
      have foreign : ∀ e ∈ s.events, e.2 ≠ requestCommand f.kind f.tag f.body :=
        fun e own => ne_requestCommand (events_own s e own) _ _ _
      exact (eventDue_foreign s foreign).mpr ⟨f, rest, ready, rfl⟩
  · obtain ⟨noneDue, noService⟩ := due_none quiet
    by_cases foreign : ∀ e ∈ s.events, e.2 ≠ c
    · cases noService.symm.trans ((serviceDue_iff s c).mpr ((eventDue_foreign s foreign).mp isDue))
    · push Not at foreign
      obtain ⟨e, own, rfl⟩ := foreign
      cases (noneDue e own).symm.trans ((events_iff s e own).mpr isDue)

end Sys2Proof.Machine
end

section
/-! PROOFS. LEN is judged before the owner acts: a wrong one is refused with BAD_LENGTH (O13). -/

namespace Sys2Proof.Machine

/-! ## How each kind's LEN is judged (R178, TABLE 10.1) -/

/-- LEN is the one the body's count gives: the count byte is reached, and so many items of this size follow it (R178). -/
def CountAgrees (place size : Nat) (body : List Byte) : Prop :=
  ∃ count, body[place]? = some count ∧ body.length = place + 1 + size * count.toNat

theorem not_countAgrees_of_short {place size : Nat} {body : List Byte} (short : body.length ≤ place) :
    ¬ CountAgrees place size body := by
  rintro ⟨count, read, -⟩
  rw [List.getElem?_eq_none short] at read
  cases read

theorem not_countAgrees_of_ne {place size : Nat} {body : List Byte} {count : Byte} (read : body[place]? = some count)
    (wrong : body.length ≠ place + 1 + size * count.toNat) : ¬ CountAgrees place size body := by
  rintro ⟨other, again, length⟩
  cases read.symm.trans again
  exact wrong length

/-- Where the count byte stands after so many bytes, the bytes after it are its items. -/
theorem countAgrees_append (size : Nat) (front : List Byte) (count : Byte) (items : List Byte) :
    CountAgrees front.length size (front ++ count :: items) ↔ items.length = size * count.toNat := by
  have read : (front ++ count :: items)[front.length]? = some count := by simp
  have length : (front ++ count :: items).length = front.length + 1 + items.length := by
    rw [List.length_append, List.length_cons]; omega
  constructor
  · rintro ⟨other, again, agrees⟩
    cases read.symm.trans again
    omega
  · exact fun agrees => ⟨count, read, by rw [length, agrees]⟩

theorem programLoadLength_iff (body : List Byte) : programLoadLength body = true ↔ CountAgrees 1 9 body := by
  match body with
  | [] | [_] => exact iff_of_false nofun (not_countAgrees_of_short (by simp))
  | start :: count :: items => exact decide_eq_true_iff.trans (countAgrees_append 9 [start] count items).symm

theorem substituteSetLength_iff (body : List Byte) : substituteSetLength body = true ↔ CountAgrees 1 2 body := by
  match body with
  | [] | [_] => exact iff_of_false nofun (not_countAgrees_of_short (by simp))
  | start :: count :: items => exact decide_eq_true_iff.trans (countAgrees_append 2 [start] count items).symm

theorem mapLoadLength_iff (body : List Byte) : mapLoadLength body = true ↔ CountAgrees 2 2 body := by
  match body with
  | [] | [_] | [_, _] => exact iff_of_false nofun (not_countAgrees_of_short (by simp))
  | page :: start :: count :: items =>
    exact decide_eq_true_iff.trans (countAgrees_append 2 [page, start] count items).symm

/-- The command of a frame of this kind is the service of the frame, and its LEN is right just where the body is so. -/
def JudgesLength (kind : Byte) (Right : List Byte → Prop) : Prop :=
  ∀ tag body, ∃ lengthOk owner, (lengthOk = true ↔ Right body) ∧
    ∀ s, exec (requestCommand kind tag body) s = .next (serve kind tag body lengthOk owner s)

namespace JudgesLength

/-- A wrong LEN is refused and the owner does not act (R163, R178). -/
theorem declines {kind tag : Byte} {Right : List Byte → Prop} {body : List Byte} {rest : List Frame} {s : State}
    (judges : JudgesLength kind Right) (ready : s.ready ⟨kind, tag, body⟩ rest) (wrong : ¬ Right body) :
    exec (requestCommand kind tag body) s = .next (declined rest kind tag .badLength s) := by
  obtain ⟨lengthOk, owner, right, meaning⟩ := judges tag body
  rw [served ready (meaning s), if_neg (fun ok => wrong (right.mp ok))]

/-- A kind whose body is empty. -/
theorem of_isEmpty {kind : Byte} {owner : Byte → List Byte → State → State}
    (meaning : ∀ tag body s, exec (requestCommand kind tag body) s =
      .next (serve kind tag body body.isEmpty (owner tag body) s)) :
    JudgesLength kind fun body => body.length = 0 :=
  fun tag body => ⟨_, _, by rw [List.isEmpty_iff_length_eq_zero], meaning tag body⟩

/-- A kind with one body length. -/
theorem of_length {kind : Byte} {n : Nat} {owner : Byte → List Byte → State → State}
    (meaning : ∀ tag body s, exec (requestCommand kind tag body) s =
      .next (serve kind tag body (decide (body.length = n)) (owner tag body) s)) :
    JudgesLength kind fun body => body.length = n :=
  fun tag body => ⟨_, _, decide_eq_true_iff, meaning tag body⟩

end JudgesLength

/-- Every kind of one body length is judged by it (TABLE 10.1). -/
theorem fixedLengths_judge : ∀ row ∈ fixedLengths, JudgesLength row.1 fun body => body.length = row.2 := by
  simp only [fixedLengths, List.forall_mem_cons, List.not_mem_nil, false_implies, implies_true, and_true]
  have identify : JudgesLength 0x01 (·.length = 0) := .of_isEmpty fun _ _ _ => rfl
  have status : JudgesLength 0x02 (·.length = 0) := .of_isEmpty fun _ _ _ => rfl
  have reset : JudgesLength 0x05 (·.length = 0) := .of_isEmpty fun _ _ _ => rfl
  have stop : JudgesLength 0x21 (·.length = 0) := .of_isEmpty fun _ _ _ => rfl
  have resume : JudgesLength 0x22 (·.length = 0) := .of_isEmpty fun _ _ _ => rfl
  refine ⟨identify, status, ?_, ?_, reset, ?_, ?_, ?_, ?_, ?_, stop, resume, ?_, ?_, ?_, ?_, ?_, ?_, ?_, ?_⟩
  all_goals exact .of_length fun _ _ _ => rfl

/-- Every kind that carries a count is judged by its count (R178). -/
theorem countedLengths_judge : ∀ row ∈ countedLengths, JudgesLength row.1 (CountAgrees row.2.1 row.2.2) := by
  simp only [countedLengths, List.forall_mem_cons, List.not_mem_nil, false_implies, implies_true, and_true]
  exact ⟨fun _ body => ⟨_, _, programLoadLength_iff body, fun _ => rfl⟩,
    fun _ body => ⟨_, _, substituteSetLength_iff body, fun _ => rfl⟩,
    fun _ body => ⟨_, _, mapLoadLength_iff body, fun _ => rfl⟩⟩

/-- Settles O13: each kind's command judges LEN as TABLE 10.1 has it, and a wrong one is refused at service begin. -/
theorem badLengthIsRefused : Obligations.BadLengthIsRefused := by
  unfold Obligations.BadLengthIsRefused
  intro s kind tag body rest ready
  refine ⟨fun n listed wrong => (fixedLengths_judge _ listed).declines ready wrong, fun place size listed => ?_⟩
  have judges : JudgesLength kind (CountAgrees place size) := countedLengths_judge _ listed
  exact ⟨fun short => judges.declines ready (not_countAgrees_of_short short),
    fun _ read wrong => judges.declines ready (not_countAgrees_of_ne read wrong)⟩

end Sys2Proof.Machine
end

section
/-! PROOFS. Power-on reset and the reset state have the values of the sections (O4). -/

namespace Sys2Proof.Machine

theorem exec_powerOnReset (s : State) :
    exec .powerOnReset s = .next (.powerOn s.pins s.coming s.pending) := rfl

/-- Settles O4: power-on reset answers `State.powerOn` at the pins it meets, and the reset state is `State.powerOn` at the
pins at rest, so `atPowerOn_powerOn` gives the values of both. -/
theorem powerOnValues : Obligations.PowerOnValues := by
  unfold Obligations.PowerOnValues
  constructor
  · intro s
    exact ⟨_, exec_powerOnReset s, atPowerOn_powerOn s.pins s.coming s.pending, rfl, rfl⟩
  · exact atPowerOn_powerOn .rest [] []

end Sys2Proof.Machine
end

section
/-! PROOFS. What a host lays out is what the readers of bodies read (O51). -/

namespace Sys2Proof.Machine

/-! ## Numbers of two, three and four bytes (0.7.3) -/

theorem num24_bytes {n : Nat} (h : n < 2 ^ 24) :
    num24 (BitVec.ofNat 8 n) (BitVec.ofNat 8 (n / 256)) (BitVec.ofNat 8 (n / 256 / 256)) = n := by
  simp [num24]; omega

theorem num32_bytes {n : Nat} (h : n < 2 ^ 32) :
    num32 (BitVec.ofNat 8 n) (BitVec.ofNat 8 (n / 256)) (BitVec.ofNat 8 (n / 256 / 256))
      (BitVec.ofNat 8 (n / 256 / 256 / 256)) = n := by
  simp [num32]; omega

/-! ## Codes of fields -/

theorem startSource?_byte (x : StartSource) : startSource? x.byte = some x := by cases x <;> rfl

theorem pauseRelease?_markByte (x : PauseRelease) : pauseRelease? (markByte (decide (x = .line))) = some x := by
  cases x <;> rfl

theorem fullPolicy?_markByte (x : FullPolicy) : fullPolicy? (markByte (decide (x = .discard))) = some x := by
  cases x <;> rfl

theorem form?_byte (x : Form) : form? x.byte = some x := by cases x <;> rfl

/-- A field of two values is one of them where its mark is set and the other where it is not. -/
theorem ite_decide_eq_self {α : Type} [DecidableEq α] {x yes no : α} (two : x = yes ∨ x = no) :
    (if decide (x = yes) = true then yes else no) = x := by
  by_cases marked : x = yes
  · simp [marked]
  · rw [decide_eq_false marked, if_neg Bool.false_ne_true, two.resolve_left marked]

theorem Polarity.falling_or_rising (x : Polarity) : x = .falling ∨ x = .rising := by cases x <;> simp

theorem PatternMode.change_or_matching (x : PatternMode) : x = .change ∨ x = .matching := by cases x <;> simp

theorem Sampling.pacer_or_timebase (x : Sampling) : x = .pacer ∨ x = .timebase := by cases x <;> simp

theorem Direction.below_or_above (x : Direction) : x = .below ∨ x = .above := by cases x <;> simp

theorem PageSource.fixed_or_channel (x : PageSource) : x = .fixed ∨ x = .channel := by cases x <;> simp

theorem InitialValue.zero_or_ones (x : InitialValue) : x = .zero ∨ x = .ones := by cases x <;> simp

theorem InputOrder.lsbFirst_or_msbFirst (x : InputOrder) : x = .lsbFirst ∨ x = .msbFirst := by cases x <;> simp

/-- A byte of three marks has no reserved bit set, and each of its bits is its mark (TABLES 10.4, 10.5). -/
theorem threeMarks_bits (m0 m1 m2 : Bool) :
    let marks : Byte := BitVec.ofNat 8 (bitAt 0 m0 + bitAt 1 m1 + bitAt 2 m2)
    marks.toNat < 8 ∧ marks.getLsbD 0 = m0 ∧ marks.getLsbD 1 = m1 ∧ marks.getLsbD 2 = m2 := by
  revert m0 m1 m2; decide

/-- A byte of five marks has no reserved bit set, and each of its bits is its mark (TABLE 10.8). -/
theorem fiveMarks_bits (m0 m1 m2 m3 m4 : Bool) :
    let marks : Byte := BitVec.ofNat 8 (bitAt 0 m0 + bitAt 1 m1 + bitAt 2 m2 + bitAt 3 m3 + bitAt 4 m4)
    marks.toNat < 32 ∧ marks.getLsbD 0 = m0 ∧ marks.getLsbD 1 = m1 ∧ marks.getLsbD 2 = m2 ∧
      marks.getLsbD 3 = m3 ∧ marks.getLsbD 4 = m4 := by
  revert m0 m1 m2 m3 m4; decide

/-! ## Readers of bodies: what was laid out -/

/-- A pattern marked absent is laid out as 0x00 and read as absent (R2). -/
theorem ite_isSome_getD (pattern : Option Byte) :
    (if pattern.isSome = true then some (pattern.getD 0x00) else none) = pattern := by
  cases pattern <;> rfl

/-- The entry's reader inverts its layout (TABLE 10.4). -/
theorem entry?_bytes (e : Entry) : entry? e.bytes = some e := by
  obtain ⟨reserved, capture, pause, pattern⟩ := threeMarks_bits e.capture e.pause e.pattern.isSome
  simp only [Entry.bytes, bytesLE, List.cons_append, List.nil_append, entry?, Option.bind_eq_bind, Option.bind_some,
    source?_byte, nibble?_nibbleByte, range?_byte, averaging?_byte]
  rw [if_pos reserved, capture, pause, pattern, ite_isSome_getD, num16_bytes e.settle.isLt, BitVec.ofNat_toNat,
    BitVec.setWidth_eq]

/-- Entries laid out one after the other are read back in order (R11). -/
theorem entries?_flatMap_bytes (es : List Entry) : entries? es.length (es.flatMap Entry.bytes) = some es := by
  induction es with
  | nil => rfl
  | cons e es ih =>
    simp only [List.length_cons, List.flatMap_cons, entries?, List.take_left' (entryBytes_length e),
      List.drop_left' (entryBytes_length e), entry?_bytes, ih, Option.bind_eq_bind, Option.bind_some]

/-- ARM's reader inverts its layout where the fields are within TABLE 2.3 (TABLE 10.5, R20). -/
theorem arm?_bytes {f : ArmFields} (valid : f.valid) : arm? f.bytes = some f := by
  obtain ⟨interval, low, high, pair⟩ := valid
  obtain ⟨reserved, line, pattern, limit⟩ := threeMarks_bits f.ctx.stopLine f.ctx.stopPattern f.ctx.stopLimit
  have intervalRead : f.ctx.passInterval.toNat = 0 ∨ 100 ≤ f.ctx.passInterval.toNat :=
    interval.imp_left fun zero => by rw [zero]; rfl
  simp only [ArmFields.bytes, bytesLE, List.cons_append, List.nil_append, arm?, Option.bind_eq_bind, Option.bind_some,
    startSource?_byte, pauseRelease?_markByte, fullPolicy?_markByte, num16_bytes f.ctx.passLimit.isLt,
    num24_bytes f.ctx.passInterval.isLt, num16_bytes f.ctx.stepInterval.isLt, num16_bytes (by omega : f.level < 65536)]
  rw [line, pattern, limit, if_pos ⟨intervalRead, reserved, low, high, pair⟩]
  simp only [BitVec.ofNat_toNat, BitVec.setWidth_eq]

/-- TRIGGER SET's reader inverts its layout where the monitor interval is one (TABLE 10.6, R47). -/
theorem trigger?_bytes {c : TriggerConfig} (interval : 10 ≤ c.monitorInterval.toNat) : trigger? c.bytes = some c := by
  simp only [TriggerConfig.bytes, bytesLE, List.cons_append, List.nil_append, trigger?, Option.bind_eq_bind,
    Option.bind_some, mark?_markByte, nibble?_nibbleByte, range?_byte, code?_bytes,
    num16_bytes c.monitorInterval.isLt]
  rw [if_pos interval, ite_decide_eq_self c.polarity.falling_or_rising, ite_decide_eq_self c.mode.change_or_matching,
    ite_decide_eq_self c.sampling.pacer_or_timebase, ite_decide_eq_self c.direction.below_or_above,
    BitVec.ofNat_toNat, BitVec.setWidth_eq]

/-- SAMPLE's reader inverts its layout (TABLE 10.7). -/
theorem sample?_bytes (f : SampleFields) : sample? f.bytes = some f := by
  simp only [SampleFields.bytes, bytesLE, List.cons_append, List.nil_append, sample?, Option.bind_eq_bind,
    Option.bind_some, nibble?_nibbleByte, range?_byte, averaging?_byte, num16_bytes f.settle.isLt]
  rw [BitVec.ofNat_toNat, BitVec.setWidth_eq]

/-- The profile's reader inverts its layout where L is not above H (TABLE 10.8, R80). -/
theorem profile?_bytes {p : Profile} (order : p.valid) : profile? p.bytes = some p := by
  obtain ⟨reserved, limits, limitStop, floorEnabled, keepRaw, stamp⟩ :=
    fiveMarks_bits p.limits p.limitStop p.floorEnabled p.keepRaw p.stamp
  have hysteresis : p.hysteresis.toNat < 1024 := p.hysteresis.isLt
  simp only [Profile.bytes, bytesLE, List.cons_append, List.nil_append, profile?, Option.bind_eq_bind,
    Option.bind_some, form?_byte, mark?_markByte, nibble?_nibbleByte, code?_bytes, slot?_byte,
    num16_bytes (by omega : p.hysteresis.toNat < 65536), ite_decide_eq_self p.pageSource.fixed_or_channel]
  rw [if_pos ⟨reserved, hysteresis, order⟩, limits, limitStop, floorEnabled, keepRaw, stamp, BitVec.ofNat_toNat,
    BitVec.setWidth_eq]

/-- A check configuration's reader inverts its layout where it is within TABLE 7.1 (TABLE 10.10, TABLE 7.3). -/
theorem checkConfig?_of_bytes {c : CheckConfig} (valid : c.valid) : checkConfig? c.bytes = some c := by
  obtain ⟨narrow, wide, nonzero, below⟩ := valid
  have width : (BitVec.ofNat 8 c.width).toNat = c.width := Nat.mod_eq_of_lt (by omega)
  have polynomial : c.polynomial.toNat ≠ 0 := fun zero => nonzero (BitVec.eq_of_toNat_eq zero)
  simp only [CheckConfig.bytes, bytesLE, List.cons_append, List.nil_append, checkConfig?, Option.bind_eq_bind,
    Option.bind_some, mark?_markByte, num32_bytes c.polynomial.isLt, width]
  rw [if_pos ⟨narrow, wide, polynomial, below⟩, ite_decide_eq_self c.initial.zero_or_ones,
    ite_decide_eq_self c.order.lsbFirst_or_msbFirst, BitVec.ofNat_toNat, BitVec.setWidth_eq]

/-- Settles O51: each reader inverts the layout of its table. -/
theorem readersInvertLayouts : Obligations.ReadersInvertLayouts := by
  unfold Obligations.ReadersInvertLayouts
  exact ⟨entry?_bytes, entries?_flatMap_bytes, fun _ => arm?_bytes, fun _ => trigger?_bytes, sample?_bytes,
    fun _ => profile?_bytes, fun _ => checkConfig?_of_bytes⟩

end Sys2Proof.Machine
end

section
/-! PROOFS. A step takes the command at the front of the queue (O1). -/

namespace Sys2Proof.Machine

theorem step_pending_cons (c : Instr) (rest : List Instr) (s : State) :
    step { s with pending := c :: rest } = exec c { s with pending := rest } := rfl

/-- Settles O1: the front of the queue decides the branch of `step`. -/
theorem stepRunsFrontCommand : Obligations.StepRunsFrontCommand := by
  unfold Obligations.StepRunsFrontCommand
  exact step_pending_cons

end Sys2Proof.Machine
end
